-- ==== Sys2Proof/Word.lean ====
section
/-! DEFINITION. The word widths of the part's frames and counters (00_scope.md 0.5). -/

namespace Sys2Proof

/-- A byte of a frame or of a packet. -/
abbrev Byte := BitVec 8

/-- A 16-bit field: notice-enable sets, list numbers, the estimate number, CRC. -/
abbrev Half := BitVec 16

/-- A 32-bit field: counters, uptime, depth and rates. -/
abbrev Word := BitVec 32

end Sys2Proof
end

