-- ==== Sys2Proof/Syntax.lean ====
section
/-! DEFINITION. The commands of the part: one constructor of `Instr` for each row of spec/opcode_table.json, with the row's operands. -/

namespace Sys2Proof

/-- The two serial ports: controller port and service port (chapter 9). -/
inductive Port where
  | cp | sp
  deriving DecidableEq, Repr

/-- INPUT A and INPUT B (chapter 1). -/
inductive InputId where
  | a | b
  deriving DecidableEq, Repr

/-- P0 to P3 (chapter 2). -/
inductive PathId where
  | p0 | p1 | p2 | p3
  deriving DecidableEq, Repr

/-- O0 to O3 (chapter 6). -/
inductive OutputId where
  | o0 | o1 | o2 | o3
  deriving DecidableEq, Repr

/-- The two bands (00_scope.md 0.5). -/
inductive Band where
  | iii | uhf
  deriving DecidableEq, Repr

/-- 2K, 8K and 32K (00_scope.md 0.5). -/
inductive SymbolMode where
  | m2k | m8k | m32k
  deriving DecidableEq, Repr

/-- Guard fractions 1/32, 1/16, 1/8, 1/4 (00_scope.md 0.5). -/
inductive GuardFraction where
  | g32 | g16 | g8 | g4
  deriving DecidableEq, Repr

/-- One observation of an observation set: signed ticks from the timing origin, and qdB below the set's strongest arrival (R50). -/
structure Observation where
  delay : Int
  attenuation : Byte
  deriving DecidableEq, Repr

/-- A decoded signalling record, every field as decoded (R23): the first four as the one-byte codes R23 numbers. -/
structure SigRecord where
  symbolMode : Byte
  guardFraction : Byte
  constellation : Byte
  codeRate : Byte
  depth : Word
  streamRate : Word
  cellIdentity : Half
  changeCount : Byte
  deriving DecidableEq, Repr

/-- Status of a decoded packet (R89). -/
inductive PacketStatus where
  | good | corrected | failed
  deriving DecidableEq, Repr

/-- A transport packet: the four header bytes of chapter 6, 6.6, and bytes 4 to 187. -/
structure Packet where
  byte0 : Byte
  byte1 : Byte
  byte2 : Byte
  byte3 : Byte
  payload : List Byte
  deriving DecidableEq, Repr

/-- A burst writes cells into a path's pages or reads them out (R106). -/
inductive BurstDir where
  | write | read
  deriving DecidableEq, Repr

/-- Why a receiver discards a frame (R161, R165). -/
inductive DiscardCause where
  | lengthByte | noStopBit | badCheck | replyQueueFull
  deriving DecidableEq, Repr

/-- A request frame less its mark, LEN, VERB and CHECK (chapter 9, 9.3): the constructor names the verb, LEN is four more than the
bytes after FLAGS. The optional condition and the body stand in `tail` as they came. -/
structure Request where
  port : Port
  unit : Byte
  tag : Byte
  flags : Byte
  tail : List Byte
  deriving DecidableEq, Repr

/-- The commands, one constructor per row of spec/opcode_table.json. -/
inductive Instr where
  | powerOn (fitHigh refPresent : Bool)
  | resetPinAssert
  | resetPinRelease (fitHigh refPresent : Bool)
  | frameDiscarded (port : Port) (cause : DiscardCause)
  | gapTimerExpiry (port : Port)
  | getStatus (r : Request)
  | setConfig (r : Request)
  | getConfig (r : Request)
  | tune (r : Request)
  | stop (r : Request)
  | scan (r : Request)
  | ackFault (r : Request)
  | readTable (r : Request)
  | readCounters (r : Request)
  | clearCounters (r : Request)
  | maskNotices (r : Request)
  | bind (r : Request)
  | setUnits (r : Request)
  | setGrants (r : Request)
  | setReference (r : Request)
  | setLink (r : Request)
  | clearScan (r : Request)
  | resetUnit (r : Request)
  | resetDevice (r : Request)
  | deviceResetAction
  | transmitFrameEnd (port : Port)
  | linkSpeedChange
  | externalReturns
  | externalLost
  | switchTimerExpiry
  | calibrationTimerExpiry (i : InputId)
  | gainPeriodClose (i : InputId) (occupancy : Byte) (clipCount : Nat)
  | impulseEventBegins (i : InputId) (magnitude : Byte)
  | impulseEventEnds (i : InputId)
  | overcurrent (i : InputId)
  | retryTimerExpiry (i : InputId)
  | tripFreeTimerExpiry (i : InputId)
  | symbolTimingFound (p : PathId) (mode : SymbolMode) (fraction : GuardFraction) (coarse : List Observation)
  | frameStartFound (p : PathId)
  | signallingRecordDecoded (p : PathId) (record : SigRecord)
  | fillComplete (p : PathId)
  | symbolTimingLost (p : PathId)
  | searchTimerExpiry (p : PathId)
  | symbolTimerExpiry (p : PathId)
  | frameTimerExpiry (p : PathId)
  | estimate (p : PathId) (observed : List Observation)
  | symbolClose (p : PathId) (errorFigure : Half)
  | holdoverTimerExpiry (p : PathId)
  | decodedPacket (p : PathId) (packet : Packet) (status : PacketStatus)
  | slotStart (o : OutputId)
  | burstFormed (p : PathId) (dir : BurstDir)
  | refreshDue
  | grantEnd
  | byteArrives (port : Port) (byte : Byte)
  | packetInProgressFinishes (o : OutputId)
  deriving DecidableEq, Repr

end Sys2Proof
end

