-- ==== Sys2Proof/Decode.lean ====
section
/-! DEFINITION. The table's words. No row of spec/opcode_table.json gives bits (a block has no instruction encoding; a request's frame is
taken by the receivers, Machine/LinkEvents.lean), so no word spells a command. -/

namespace Sys2Proof

/-- The command that a word spells by the table's bits: the table gives no row any bits, so none. -/
def decodeTableWord (_nbits _w : Nat) : Option Instr := none

end Sys2Proof
end

