-- ==== Sys2Proof/Config.lean ====
section
/-! DEFINITION. The fixed numbers of the part (timer lengths, capacities, ranges), each with the rule that gives it, and the model's one
free value. -/

namespace Sys2Proof

/-- FREE VALUE (R169, log 8): a reply and a notice that become pending together at an idle CP transmitter may be taken in either order.
Applied to the count of choices already made; `true` is "the reply is taken first". Nothing constrains it. -/
opaque Config.replyFirst : Nat → Bool

namespace Config

/-- Calibration timer, ms (R1, R2). -/
abbrev calibrationMs : Nat := 20
/-- Retry timer of the mast supply, ms (R16). -/
abbrev retryMs : Nat := 2000
/-- Trip-free timer of the mast supply, ms (R17). -/
abbrev tripFreeMs : Nat := 60000
/-- SEARCH timer, ms (chapter 2, 2.6). -/
abbrev searchMs : Nat := 300
/-- SYMBOL timer, ms (chapter 2, 2.6). -/
abbrev symbolMs : Nat := 400
/-- FRAME timer, ms (chapter 2, 2.6). -/
abbrev frameMs : Nat := 1000
/-- Switch timer of the reference clock, ms (R183). -/
abbrev switchMs : Nat := 10
/-- Gap timer of a receiver, ms (R161). -/
abbrev gapMs : Nat := 20

/-- Most replies a port's reply queue holds (R168). -/
abbrev replyCap : Nat := 8
/-- Most records the notice queue holds (R176). -/
abbrev noticeCap : Nat := 32
/-- Most packets an output's queue holds (R124). -/
abbrev packetCap : Nat := 64
/-- Most bursts a staging queue holds (R107). -/
abbrev stagingCap : Nat := 8
/-- Most entries an echo table holds (R46). -/
abbrev echoCap : Nat := 8
/-- Most entries the scan result list holds (R139). -/
abbrev scanCap : Nat := 64
/-- The refresh pending count saturates here (R112). -/
abbrev refreshCap : Nat := 8
/-- From this pending count on a refresh wins every grant decision (R113). -/
abbrev refreshUrgent : Nat := 4
/-- Most retries of the mast supply before LOCKOUT (R16). -/
abbrev retryCap : Nat := 5
/-- Cells in a page (R92). -/
abbrev cellsPerPage : Nat := 65536
/-- Bytes a reply or notice body holds at most (R173). -/
abbrev bodyCap : Nat := 247
/-- The clamped run that raises ANCHOR_RUNAWAY (R68, R69). -/
abbrev clampedCap : Nat := 16
/-- The discard run that raises STORE_STALL (R109). -/
abbrev discardCap : Nat := 8

/-- Ends of the range of echo delays and anchor values, ticks (00_scope.md 0.5). -/
abbrev delayMin : Int := -8192
/-- See `delayMin`. -/
abbrev delayMax : Int := 16383

/-- Distance, in ticks, within which an observation matches an entry and two entries are combined (R53, R58). -/
abbrev matchTicks : Int := 2

end Config

end Sys2Proof
end

