-- ==== Sys2Proof/Machine/State.lean ====
section
/-! DEFINITION. Everything the spec gives the part to hold, as plain data, the two ways a step could stop, and the state right after reset
(power-on). INVENTORY.md lists each field with its rule. -/

namespace Sys2Proof.Machine

open Sys2Proof

/-- The part has no fault that stops it: a refused request is answered with a status (R165 to R167), a bad frame is discarded (R161), and a
path's own faults are states of the path (R145). No command raises one. -/
inductive Fault where
  deriving DecidableEq, Repr

/-- The only refusal is the host's: a command that has no meaning yet. No arm of `exec` uses it. -/
inductive Refusal where
  /-- Raised by an arm of `exec` whose command has no meaning in the model; safe. -/
  | notModelled (mnemonic : String)
  deriving DecidableEq, Repr

/-- One value for each port. -/
structure Ports (α : Type) where
  cp : α
  sp : α
  deriving DecidableEq, Repr

/-- The units (R165). -/
inductive UnitId where
  | device
  | input (i : InputId)
  | path (p : PathId)
  | output (o : OutputId)
  | store
  deriving DecidableEq, Repr

/-- One value for each of the twelve units. -/
structure PerUnit (α : Type) where
  device : α
  inputA : α
  inputB : α
  path0 : α
  path1 : α
  path2 : α
  path3 : α
  output0 : α
  output1 : α
  output2 : α
  output3 : α
  store : α
  deriving DecidableEq, Repr

/-- A tag and the port it came on (R22, R174). -/
structure TagPort where
  tag : Byte
  port : Port
  deriving DecidableEq, Repr

/-- A timer: stopped, or running with the length in ms it was started with (log 7). -/
abbrev Timer := Option Nat

/-- An event counter with its overflow flag (R154, R155). -/
structure Counter where
  value : Word
  overflow : Bool
  deriving DecidableEq, Repr

/-! ### Input units (chapter 1) -/

/-- States of an input (1.1). -/
inductive InputState where
  | off | calibrating | running
  deriving DecidableEq, Repr

/-- Gain modes (1.3). -/
inductive GainMode where
  | auto | manual
  deriving DecidableEq, Repr

/-- States of the mast supply (R15). -/
inductive MastState where
  | off | on | tripped | lockout
  deriving DecidableEq, Repr

/-- What an input unit holds (1.8). The attached-path set is a view (`State.attached`): R5 makes it a function of the paths. -/
structure Input where
  state : InputState
  calibrationTimer : Timer
  gainMode : GainMode
  gain : Nat
  low : Nat
  high : Nat
  clipLimit : Nat
  impulseThreshold : Nat
  weak : Bool
  overload : Bool
  occupancy : Nat
  clipCount : Nat
  impulse : Bool
  mast : MastState
  retries : Nat
  mastItem : Bool
  retryTimer : Timer
  tripFreeTimer : Timer
  clip : Counter
  impulses : Counter
  deriving DecidableEq, Repr

/-! ### Paths (chapters 2, 3, 4, 5, 7, 8) -/

/-- The twelve states of a path, in the order of R20. -/
inductive PathState where
  | off | idle | search | symbol | frame | pageWait | fill | locked | holdover | scan | fault | halt
  deriving DecidableEq, Repr

/-- Result of a tune, in the order of R22. -/
inductive TuneResult where
  | pending | locked | noSignal | unsupported | superseded | stopped
  deriving DecidableEq, Repr

/-- The tune record (R22). -/
structure TuneRecord where
  input : InputId
  band : Band
  channel : Nat
  offset : Int
  persist : Bool
  sender : TagPort
  attempts : Nat
  result : TuneResult
  deriving DecidableEq, Repr

/-- The signalling record a path holds, with its mark (R23). -/
structure HeldRecord where
  record : SigRecord
  unsupported : Bool
  deriving DecidableEq, Repr

/-- Phases of a scan channel (7.2). -/
inductive ScanPhase where
  | search | symbol | frame
  deriving DecidableEq, Repr

/-- The scan record (R134). -/
structure ScanRecord where
  input : InputId
  band : Band
  first : Nat
  last : Nat
  sender : TagPort
  current : Nat
  phase : ScanPhase
  done : Nat
  finds : Nat
  truncated : Bool
  stopped : Bool
  deriving DecidableEq, Repr

/-- Status of an echo entry (R46). -/
inductive EchoStatus where
  | tentative | confirmed
  deriving DecidableEq, Repr

/-- An entry of the echo table (R46). -/
structure EchoEntry where
  delay : Int
  attenuation : Nat
  status : EchoStatus
  hits : Nat
  age : Nat
  deriving DecidableEq, Repr

/-- The symbol mode and guard fraction found when the timing origin was fixed; they give G (R47). -/
structure TimingOrigin where
  mode : SymbolMode
  fraction : GuardFraction
  deriving DecidableEq, Repr

/-- What begins and ends together in the echo tracker (R49), and the timing origin with it (R47). -/
structure Tracker where
  table : List EchoEntry
  origin : Option TimingOrigin
  anchor : Option Int
  spill : Bool
  estimate : Half
  clampedRun : Nat
  deriving DecidableEq, Repr

/-- A quality window that runs (R74). -/
structure Window where
  length : Nat
  counted : Nat
  unblanked : Nat
  sum : Nat
  deriving DecidableEq, Repr

/-- The result of a window, and the last quality (R75, R76). -/
inductive Quality where
  | none
  | invalid
  | mer (tenths : Nat)
  deriving DecidableEq, Repr

/-- Causes of a path fault, in the order of R145. -/
inductive FaultCause where
  | unsupportedSignal | anchorRunaway | storeStall
  deriving DecidableEq, Repr

/-- The three classes a first fault saves (R146). -/
structure SavedEnables where
  pathState : Bool
  spill : Bool
  counterWrap : Bool
  deriving DecidableEq, Repr

/-- The fault record (R146). -/
structure FaultRecord where
  hold : Bool
  primary : Option FaultCause
  secondary : Option FaultCause
  saved : Option SavedEnables
  deriving DecidableEq, Repr

/-- Configuration items of a path (R42); COUNT_INHIBIT as its two classes. -/
structure PathConfig where
  persist : Bool
  holdoverTime : Nat
  windowExp : Nat
  lossThreshold : Nat
  recoveryHyst : Nat
  echoFloor : Nat
  fadeLimit : Nat
  moveThreshold : Nat
  slewLimit : Nat
  bias : Nat
  inhibitAcquiring : Bool
  inhibitHoldover : Bool
  deriving DecidableEq, Repr

/-- The six counters of a path (R154). -/
structure PathCounters where
  good : Counter
  corrected : Counter
  failed : Counter
  blanked : Counter
  storeLate : Counter
  anchorMoves : Counter
  deriving DecidableEq, Repr

/-- The marks of the symbol in progress: blanked (R14), the bursts formed in it (R106), a burst of it discarded (R108, R109). -/
structure SymbolMarks where
  blanked : Bool
  writes : Nat
  reads : Nat
  discard : Bool
  deriving DecidableEq, Repr

/-- What a path holds. -/
structure Path where
  state : PathState
  tune : Option TuneRecord
  sig : Option HeldRecord
  config : PathConfig
  searchTimer : Timer
  symbolTimer : Timer
  frameTimer : Timer
  holdoverTimer : Timer
  tracker : Tracker
  /-- In HOLDOVER: symbol timing is present (R21). -/
  holdTiming : Bool
  /-- A frame has been found since symbol timing was found (R21, R86). -/
  frameFound : Bool
  window : Option Window
  quality : Quality
  latched : Option Word
  symbol : SymbolMarks
  /-- The anchor that the symbol in progress started with, which governs its receive window until it closes (R66). -/
  symbolAnchor : Option Int
  pages : List Nat
  staging : List BurstDir
  discardRun : Nat
  fault : FaultRecord
  scan : Option ScanRecord
  counters : PathCounters
  deriving DecidableEq, Repr

/-! ### Outputs (chapter 6) -/

/-- States of an output (R119). -/
inductive OutputState where
  | off | silent | running
  deriving DecidableEq, Repr

/-- Error policies (R125). -/
inductive Policy where
  | mark | null | drop
  deriving DecidableEq, Repr

/-- What a serial port sends in one bit time: a start bit, a data bit, a stop bit (R160). -/
inductive SerialBit where
  | start
  | data (bit : Bool)
  | stop
  deriving DecidableEq, Repr

/-- The levels of an output's data, valid and sync lines at one clock (R119, R123). -/
structure LineBit where
  data : Bool
  valid : Bool
  sync : Bool
  deriving DecidableEq, Repr

/-- A slot in progress on the line: its packet and the rate it is sent at (R121, R123). -/
structure Slot where
  packet : Packet
  rate : Option Word
  deriving DecidableEq, Repr

/-- What an output holds. -/
structure Output where
  state : OutputState
  bound : Option PathId
  policy : Policy
  queue : List Packet
  rate : Option Word
  line : Option Slot
  fill : Counter
  dropped : Counter
  deriving DecidableEq, Repr

/-! ### Store (chapter 5) -/

/-- An entry of the wait queue (R96). -/
structure Waiting where
  path : PathId
  need : Nat
  deriving DecidableEq, Repr

/-- What holds the DRAM (R111). `stale`: the burst's data are discarded at its end (R115). -/
inductive Service where
  | idle
  | burst (p : PathId) (dir : BurstDir) (stale : Bool)
  | refresh
  deriving DecidableEq, Repr

/-- What the store unit holds. -/
structure Store where
  fitment : Nat
  free : List Nat
  wait : List Waiting
  alloc : Half
  service : Service
  lastGranted : PathId
  refreshPending : Nat
  deriving DecidableEq, Repr

/-! ### Device unit (chapters 7 and 11) -/

/-- States of the reference clock, in the order of 9.6. -/
inductive RefState where
  | internal | switching | external | fallback
  deriving DecidableEq, Repr

/-- An entry of the scan result list (R139). -/
structure ScanEntry where
  input : InputId
  band : Band
  channel : Nat
  cellIdentity : Half
  symbolMode : Byte
  guardFraction : Byte
  constellation : Byte
  codeRate : Byte
  streamRate : Word
  gain : Nat
  unsupported : Bool
  deriving DecidableEq, Repr

/-- What the device unit holds. The wrap summary is a view (`State.wrapSummary`): R159 makes it the counters whose flag is set. -/
structure Device where
  unitEnable : Half
  grants : Byte
  reference : RefState
  extPresent : Bool
  switchTimer : Timer
  scanList : List ScanEntry
  scanNumber : Half
  uptime : Word
  deriving DecidableEq, Repr

/-! ### Link block (chapters 9 and 10) -/

/-- A receiver (R161): in BODY, LEN and the bytes kept since. -/
inductive Receiver where
  | hunt
  | length
  | body (len : Byte) (got : List Byte)
  deriving DecidableEq, Repr

/-- Status codes of replies (9.4). -/
inductive Status where
  | ok | accepted | conditionFalse | busy | wrongState | unitOff | notGranted | unknownUnit | unknownVerb | badLength | badValue
  deriving DecidableEq, Repr

/-- A reply that waits or is being sent (R166). `thenReset`: the reset of the part follows once it has been sent (R185). -/
structure Reply where
  unit : Byte
  tag : Byte
  status : Status
  body : List Byte
  thenReset : Bool
  deriving DecidableEq, Repr

/-- Reasons of PATH_STATE, in the order of R41. -/
inductive Reason where
  | enabled | disabled | tune | stop | timingFound | frameFound | signalling | pages | filled | timing | timeout | resize | quality
  | recovered | lost | inputOff | inputReset | unitReset | fault | ack | scan | scanEnd
  deriving DecidableEq, Repr

/-- The ten notice classes, in the order of their bits (R172). -/
inductive NoticeClass where
  | pathState | tuneResult | pathFault | doubleFault | spill | inputLevel | mastSupply | counterWrap | scanDone | reference
  deriving DecidableEq, Repr

/-- The detail of a notice, which names its class (10.1). -/
inductive NoticeDetail where
  | pathState (old new : PathState) (reason : Reason)
  | tuneResult (sender : TagPort) (result : TuneResult) (attempts : Nat)
  | pathFault (cause : FaultCause) (previous : PathState) (pages : Nat) (sender : Option TagPort) (inFlight : Bool) (value : Word)
  | doubleFault (primary : Option FaultCause) (secondary : FaultCause) (previous : PathState) (pages : Nat) (sender : Option TagPort)
      (inFlight : Bool)
  | spill (flag : Bool) (spread guardLength : Nat) (anchor : Option Int) (estimate : Half)
  | inputLevel (weak overload : Bool) (gain occupancy clipCount : Nat)
  | mastSupply (old new : MastState) (retries : Nat)
  | counterWrap (number : Nat)
  | scanDone (record : ScanRecord)
  | reference (old new : RefState) (step : Bool)
  deriving DecidableEq, Repr

/-- A notice record (R175). -/
structure NoticeRecord where
  unit : UnitId
  detail : NoticeDetail
  repeats : Nat
  overrun : Bool
  timestamp : Word
  deriving DecidableEq, Repr

/-- A frame on a transmitter (R169). -/
inductive TxFrame where
  | reply (r : Reply)
  | notice (n : NoticeRecord)
  deriving DecidableEq, Repr

/-- CP speeds, in the order of their codes (R160). -/
inductive LinkSpeed where
  | b57600 | b115200 | b230400 | b460800
  deriving DecidableEq, Repr

/-- A frame in progress on a transmitter and the speed it is sent at: a frame begun at one speed is sent whole at it (R160, R178). -/
structure Sending where
  frame : TxFrame
  speed : LinkSpeed
  deriving DecidableEq, Repr

/-- A speed stored by SET_LINK and not yet in force, with the CP replies still waiting ahead of its boundary (R160). -/
structure PendingSpeed where
  speed : LinkSpeed
  ahead : Nat
  deriving DecidableEq, Repr

/-- What the link block holds. -/
structure Link where
  rx : Ports Receiver
  replies : Ports (List Reply)
  tx : Ports (Option Sending)
  notices : List NoticeRecord
  overrun : Bool
  enables : PerUnit Half
  cpSpeed : LinkSpeed
  speedPending : List PendingSpeed
  /-- RESET_DEVICE has been taken and its reply, if any, has been sent: the reset is due (R185). -/
  resetDue : Bool
  deriving DecidableEq, Repr

/-! ### The part -/

/-- The two input units. -/
structure Inputs where
  a : Input
  b : Input
  deriving DecidableEq, Repr

/-- The four paths. -/
structure Paths where
  p0 : Path
  p1 : Path
  p2 : Path
  p3 : Path
  deriving DecidableEq, Repr

/-- The four outputs. -/
structure Outputs where
  o0 : Output
  o1 : Output
  o2 : Output
  o3 : Output
  deriving DecidableEq, Repr

structure State where
  /-- Commands that wait, first in, first out. -/
  pending : List Instr
  /-- The RESET pin is held (R185). -/
  resetHeld : Bool
  device : Device
  inputs : Inputs
  paths : Paths
  outputs : Outputs
  store : Store
  link : Link
  /-- The last taken tag of each unit (R174). -/
  lastTags : PerUnit (Option TagPort)
  /-- The model's own: how many free choices have been used (log 8). -/
  freeCount : Nat
  deriving DecidableEq, Repr

/-! ### Power-on values (the tables "Values after each reset" of every chapter) -/

/-- A counter after reset (R154, R155). -/
def Counter.zero : Counter := { value := 0, overflow := false }

/-- The same value for every unit. -/
def PerUnit.all {α : Type} (x : α) : PerUnit α :=
  { device := x, inputA := x, inputB := x, path0 := x, path1 := x, path2 := x, path3 := x, output0 := x, output1 := x, output2 := x,
    output3 := x, store := x }

/-- Chapter 1, 1.8. -/
def Input.initial : Input :=
  { state := .off, calibrationTimer := none, gainMode := .auto, gain := 32, low := 96, high := 160, clipLimit := 4,
    impulseThreshold := 200, weak := false, overload := false, occupancy := 0, clipCount := 0, impulse := false, mast := .off,
    retries := 0, mastItem := false, retryTimer := none, tripFreeTimer := none, clip := .zero, impulses := .zero }

/-- Defaults of R42. -/
def PathConfig.initial : PathConfig :=
  { persist := false, holdoverTime := 500, windowExp := 6, lossThreshold := 120, recoveryHyst := 10, echoFloor := 96, fadeLimit := 6,
    moveThreshold := 4, slewLimit := 64, bias := 4, inhibitAcquiring := false, inhibitHoldover := false }

/-- R49: what clearing leaves. -/
def Tracker.cleared : Tracker :=
  { table := [], origin := none, anchor := none, spill := false, estimate := 0, clampedRun := 0 }

/-- No symbol in progress has a mark. -/
def SymbolMarks.clear : SymbolMarks := { blanked := false, writes := 0, reads := 0, discard := false }

/-- R146 after reset. -/
def FaultRecord.clear : FaultRecord := { hold := false, primary := none, secondary := none, saved := none }

/-- All six counters at 0. -/
def PathCounters.zero : PathCounters :=
  { good := .zero, corrected := .zero, failed := .zero, blanked := .zero, storeLate := .zero, anchorMoves := .zero }

/-- Chapter 2, 2.12, with the tables of chapters 3, 4, 5, 7 and 8. -/
def Path.initial : Path :=
  { state := .off, tune := none, sig := none, config := .initial, searchTimer := none, symbolTimer := none, frameTimer := none,
    holdoverTimer := none, tracker := .cleared, holdTiming := false, frameFound := false, window := none, quality := .none,
    latched := none, symbol := .clear, symbolAnchor := none, pages := [], staging := [], discardRun := 0, fault := .clear, scan := none,
    counters := .zero }

/-- Chapter 6, 6.8. -/
def Output.initial : Output :=
  { state := .off, bound := none, policy := .mark, queue := [], rate := none, line := none, fill := .zero, dropped := .zero }

/-- Chapter 5, 5.7: every page free in ascending order, the arbiter IDLE with P3 last granted (R94, R96, R105, R111). -/
def Store.initial (fitment : Nat) : Store :=
  { fitment, free := List.range fitment, wait := [], alloc := 0, service := .idle, lastGranted := .p3, refreshPending := 0 }

/-- Chapter 11, 11.5. -/
def Device.initial (extPresent : Bool) : Device :=
  { unitEnable := 0, grants := 0, reference := .internal, extPresent, switchTimer := none, scanList := [], scanNumber := 0, uptime := 0 }

/-- R161, R168, R176, R177, R179; the CP runs at 115,200 baud (R160). -/
def Link.initial : Link :=
  { rx := { cp := .hunt, sp := .hunt }, replies := { cp := [], sp := [] }, tx := { cp := none, sp := none }, notices := [],
    overrun := false, enables := .all 0x03FF, cpSpeed := .b115200, speedPending := [], resetDue := false }

/-- The fitment a level of the FIT pin gives (R92): low 128 pages, high 256. -/
def fitmentOf (fitHigh : Bool) : Nat := if fitHigh then 256 else 128

/-- The part after power-on with the FIT and REF levels found. -/
def State.powerOn (fitHigh refPresent : Bool) : State :=
  { pending := [], resetHeld := false, device := .initial refPresent, inputs := { a := .initial, b := .initial },
    paths := { p0 := .initial, p1 := .initial, p2 := .initial, p3 := .initial },
    outputs := { o0 := .initial, o1 := .initial, o2 := .initial, o3 := .initial }, store := .initial (fitmentOf fitHigh),
    link := .initial, lastTags := .all none, freeCount := 0 }

/-- The machine right after reset: power-on with FIT low and no external reference (DESIGN CHOICE, unsafe: log 1 and log 2). -/
def State.reset : State := State.powerOn false false

end Sys2Proof.Machine
end

