-- ==== Sys2Proof/Machine/Echo.lean ====
section
/-! DEFINITION. The echo tracker of a path as pure functions: seeding, the seven steps of an estimate, placement and the anchor's move
(chapter 3). -/

namespace Sys2Proof.Machine

open Sys2Proof

/-- Useful symbol length U in ticks (00_scope.md 0.5). -/
def usefulLength : SymbolMode → Nat
  | .m2k => 2048
  | .m8k => 8192
  | .m32k => 32768

/-- The guard fraction's denominator (00_scope.md 0.5). -/
def guardDivisor : GuardFraction → Nat
  | .g32 => 32
  | .g16 => 16
  | .g8 => 8
  | .g4 => 4

/-- The guard length G = U × fraction, in ticks (00_scope.md 0.5, R47). -/
def TimingOrigin.guardLength (o : TimingOrigin) : Nat := usefulLength o.mode / guardDivisor o.fraction

/-- G of a tracker; without a timing origin there is none, and no placement is made. -/
def Tracker.guardLength (t : Tracker) : Nat :=
  match t.origin with
  | some o => o.guardLength
  | none => 0

/-- The delay range (00_scope.md 0.5). -/
def inDelayRange (d : Int) : Bool := Config.delayMin ≤ d && d ≤ Config.delayMax

/-- The nearer end of the delay range for a value outside it. -/
def clampDelay (d : Int) : Int := max Config.delayMin (min Config.delayMax d)

/-! ### Order -/

/-- Puts an observation at its place in ascending order of delay. -/
def insertObservation (o : Observation) : List Observation → List Observation
  | [] => [o]
  | x :: xs => if o.delay < x.delay then o :: x :: xs else x :: insertObservation o xs

/-- Observations in ascending order of delay. -/
def sortObservations (os : List Observation) : List Observation := os.foldl (fun acc o => insertObservation o acc) []

/-- Puts an entry at its place in ascending order of delay. -/
def insertEntry (e : EchoEntry) : List EchoEntry → List EchoEntry
  | [] => [e]
  | x :: xs => if e.delay < x.delay then e :: x :: xs else x :: insertEntry e xs

/-- Entries in ascending order of delay (R58). -/
def sortEntries (es : List EchoEntry) : List EchoEntry := es.foldl (fun acc e => insertEntry e acc) []

/-! ### Step 6: combining close entries -/

/-- The member whose delay and attenuation a combined entry takes: the lower attenuation; equal, the CONFIRMED one; the same status, the
earlier one, `a` (R58). -/
def combineLeader (a b : EchoEntry) : EchoEntry :=
  if a.attenuation < b.attenuation then a
  else if b.attenuation < a.attenuation then b
  else if a.status = .tentative ∧ b.status = .confirmed then b
  else a

/-- Two adjacent entries as one (R58). -/
def combine (a b : EchoEntry) : EchoEntry :=
  { delay := (combineLeader a b).delay
    attenuation := (combineLeader a b).attenuation
    status := if a.status = .confirmed ∨ b.status = .confirmed then .confirmed else .tentative
    hits := max a.hits b.hits
    age := min a.age b.age }

/-- Combines from the entry `a` on. R58 restarts the search at the lowest pair after each combination: a combined entry never lies earlier
than its earlier member, so the pairs before it stay more than 2 ticks apart and going on from it is the same. -/
def combineFrom (a : EchoEntry) : List EchoEntry → List EchoEntry
  | [] => [a]
  | b :: rest => if b.delay - a.delay ≤ Config.matchTicks then combineFrom (combine a b) rest else a :: combineFrom b rest

/-- Combines the close pairs of a list in ascending order of delay, from the lowest (R58). -/
def mergeClose : List EchoEntry → List EchoEntry
  | [] => []
  | e :: rest => combineFrom e rest

/-- Step 6 of an estimate: order and merge (R58). -/
def orderAndMerge (es : List EchoEntry) : List EchoEntry := mergeClose (sortEntries es)

/-! ### Placement (3.5) -/

/-- The relevant set: CONFIRMED entries at or below the echo floor, in the table's order (R60). -/
def relevantSet (echoFloor : Nat) (table : List EchoEntry) : List EchoEntry :=
  table.filter (fun e => e.status == .confirmed && e.attenuation ≤ echoFloor)

/-- d_first of a relevant set in ascending order of delay (R60). -/
def firstDelay : List EchoEntry → Int
  | [] => 0
  | e :: _ => e.delay

/-- d_last of a relevant set in ascending order of delay (R60). -/
def lastDelay : List EchoEntry → Int
  | [] => 0
  | [e] => e.delay
  | _ :: e :: rest => lastDelay (e :: rest)

/-- The spread of a relevant set (R60); 0 when it is empty (R65). -/
def spread (rel : List EchoEntry) : Int := lastDelay rel - firstDelay rel

/-- The weight law (R61). -/
def weight (attenuation : Nat) : Nat := 4096 >>> (attenuation / 12)

/-- The captured weight of the candidate a: the relevant members with a − G ≤ d ≤ a (R64). -/
def capturedWeight (g : Nat) (rel : List EchoEntry) (a : Int) : Nat :=
  ((rel.filter (fun e => a - g ≤ e.delay && e.delay ≤ a)).map (fun e => weight e.attenuation)).sum

/-- The candidate anchors of the spill case (R64). -/
def candidates (g : Nat) (rel : List EchoEntry) : List Int := rel.flatMap (fun e => [e.delay, e.delay + g])

/-- The candidate with the greater captured weight, the smaller of two that share it (R64). -/
def betterCandidate (g : Nat) (rel : List EchoEntry) (a b : Int) : Int :=
  if capturedWeight g rel a < capturedWeight g rel b then b
  else if capturedWeight g rel b < capturedWeight g rel a then a
  else min a b

/-- The target of the spill case (R64). -/
def spillTarget (g : Nat) (rel : List EchoEntry) : Int :=
  (candidates g rel).foldl (betterCandidate g rel) (firstDelay rel)

/-- The target of the fit case: d_last + floor(S × k / 8) (R63). -/
def fitTarget (g bias : Nat) (rel : List EchoEntry) : Int := lastDelay rel + ((g - spread rel) * bias) / 8

/-- The relevant set does not fit one window (R64, R65). -/
def spills (g : Nat) (rel : List EchoEntry) : Bool := !rel.isEmpty && (g : Int) < spread rel

/-- The target, none for an empty relevant set (R62, R63, R64). -/
def target (g bias : Nat) (rel : List EchoEntry) : Option Int :=
  if rel.isEmpty then none else if spills g rel then some (spillTarget g rel) else some (fitTarget g bias rel)

/-- The step toward the target, limited to the slew limit (R66 step 2). -/
def limitedStep (slewLimit : Nat) (d : Int) : Int := max (-(slewLimit : Int)) (min slewLimit d)

/-- The anchor before the range clamp: unmoved within the move threshold, else moved by the limited step (R66 steps 1 and 2). -/
def steppedAnchor (cfg : PathConfig) (anchor t : Int) : Int :=
  if (t - anchor).natAbs ≤ cfg.moveThreshold then anchor else anchor + limitedStep cfg.slewLimit (t - anchor)

/-- What one placement at an estimate decides: the anchor, and whether the estimate is clamped (R66, R68). -/
structure Placed where
  anchor : Option Int
  clamped : Bool
  deriving DecidableEq, Repr

/-- Moves the anchor toward the target (R66) and judges the estimate (R68). A tracker that has a relevant arrival and no anchor does not
arise (R59 gives one); it is placed as at seeding (log 24). -/
def placeAnchor (cfg : PathConfig) (anchor : Option Int) (t : Option Int) : Placed :=
  match t with
  | none => { anchor, clamped := false }
  | some t =>
    match anchor with
    | none => { anchor := some (clampDelay t), clamped := !inDelayRange t }
    | some a =>
      let stepped := steppedAnchor cfg a t
      let moves := !decide ((t - a).natAbs ≤ cfg.moveThreshold)
      let kept := if moves then clampDelay stepped else a
      { anchor := some kept, clamped := !inDelayRange t || (moves && kept != stepped) }

/-! ### Steps 1 to 5 of an estimate -/

/-- An entry while an estimate is processed: its delay at the start (none for a newcomer), and whether it is touched (R51). -/
structure Working where
  start : Option Int
  touched : Bool
  entry : EchoEntry
  deriving DecidableEq, Repr

/-- The distance between an observation and an entry's starting delay, if it is 2 ticks or less (R53). -/
def Working.distance (w : Working) (d : Int) : Option Nat :=
  match w.start with
  | none => none
  | some x => if (d - x).natAbs ≤ 2 then some (d - x).natAbs else none

/-- The nearest starting delay within 2 ticks, the earlier of two at one distance; the entries are in ascending order of it (R53). -/
def nearestStart (d : Int) (ws : List Working) : Option Int :=
  let near := ws.foldl (fun (best : Option (Nat × Int)) w =>
    match w.distance d, w.start, best with
    | some k, some x, none => some (k, x)
    | some k, some x, some (k', x') => if k < k' then some (k, x) else some (k', x')
    | _, _, best => best) none
  near.map Prod.snd

/-- The effect of a match on an entry (R53). -/
def EchoEntry.hit (e : EchoEntry) (o : Observation) : EchoEntry :=
  { e with delay := o.delay, attenuation := o.attenuation.toNat, hits := min 15 (e.hits + 1), age := 0 }

/-- Step 2 for one observation: unmatched, matched, or discarded at an entry already matched (R53). -/
def matchOne (acc : List Working × List Observation) (o : Observation) : List Working × List Observation :=
  match nearestStart o.delay acc.1 with
  | none => (acc.1, acc.2 ++ [o])
  | some x =>
    (acc.1.map (fun w => if w.start = some x ∧ !w.touched then { w with touched := true, entry := w.entry.hit o } else w), acc.2)

/-- A newcomer's entry (R54). -/
def newEntry (o : Observation) : EchoEntry :=
  { delay := o.delay, attenuation := o.attenuation.toNat, status := .tentative, hits := 1, age := 0 }

/-- `a` is weaker than `b`: the larger attenuation; equal, TENTATIVE before CONFIRMED; still tied, the later delay (R55). -/
def weaker (a b : EchoEntry) : Bool :=
  if a.attenuation != b.attenuation then b.attenuation < a.attenuation
  else if a.status != b.status then a.status == .tentative
  else b.delay < a.delay

/-- The weakest untouched entry (R55). -/
def weakestUntouched (ws : List Working) : Option EchoEntry :=
  ws.foldl (fun best w =>
    if w.touched then best
    else match best with
      | none => some w.entry
      | some b => if weaker w.entry b then some w.entry else some b) none

/-- Step 3 for one newcomer (R54, R55). -/
def insertNewcomer (ws : List Working) (o : Observation) : List Working :=
  let arrived : Working := { start := none, touched := true, entry := newEntry o }
  if ws.length < Config.echoCap then ws ++ [arrived]
  else match weakestUntouched ws with
    | none => ws
    | some e =>
      if o.attenuation.toNat < e.attenuation then ws.filter (fun w => w.touched || w.entry != e) ++ [arrived] else ws

/-- Step 4 for one entry: an untouched entry ages, and one that reaches the fade limit is removed (R56). -/
def ageOne (fadeLimit : Nat) (w : Working) : Option EchoEntry :=
  if w.touched then some w.entry
  else if fadeLimit ≤ w.entry.age + 1 then none
  else some { w.entry with age := w.entry.age + 1 }

/-- Step 5: promotion (R57). -/
def promote (e : EchoEntry) : EchoEntry := if 3 ≤ e.hits then { e with status := .confirmed } else e

/-- Steps 1 to 6 of an estimate on the table (R52 to R58). -/
def revisedTable (fadeLimit : Nat) (table : List EchoEntry) (observed : List Observation) : List EchoEntry :=
  let inRange := sortObservations (observed.filter (fun o => inDelayRange o.delay))
  let start : List Working := table.map (fun e => { start := some e.delay, touched := false, entry := e })
  let matched := inRange.foldl matchOne (start, [])
  let inserted := matched.2.foldl insertNewcomer matched.1
  orderAndMerge ((inserted.filterMap (ageOne fadeLimit)).map promote)

/-- The whole of an estimate on the tracker (R51): the new tracker and whether the estimate was clamped. -/
def estimateTracker (cfg : PathConfig) (t : Tracker) (observed : List Observation) : Tracker × Bool :=
  let table := revisedTable cfg.fadeLimit t.table observed
  let rel := relevantSet cfg.echoFloor table
  let placed := placeAnchor cfg t.anchor (target t.guardLength cfg.bias rel)
  ({ t with table, anchor := placed.anchor, spill := spills t.guardLength rel, estimate := t.estimate + 1,
            clampedRun := if placed.clamped then min Config.clampedCap (t.clampedRun + 1) else 0 }, placed.clamped)

/-! ### Seeding (R59) -/

/-- `a` is kept before `b` at seeding: the lower attenuation, then the earlier delay (R59 step 2). -/
def keptBefore (a b : Observation) : Bool :=
  if a.attenuation != b.attenuation then a.attenuation.toNat < b.attenuation.toNat else a.delay < b.delay

/-- Puts an observation at its place in the order of `keptBefore`. -/
def insertKept (o : Observation) : List Observation → List Observation
  | [] => [o]
  | x :: xs => if keptBefore o x then o :: x :: xs else x :: insertKept o xs

/-- The 8 observations kept at seeding (R59 step 2). -/
def keptAtSeeding (os : List Observation) : List Observation :=
  (os.foldl (fun acc o => insertKept o acc) []).take Config.echoCap

/-- A seeded entry (R59 step 3). -/
def seededEntry (o : Observation) : EchoEntry :=
  { delay := o.delay, attenuation := o.attenuation.toNat, status := .confirmed, hits := 3, age := 0 }

/-- Seeding: the table, the anchor at the target, the estimate number and the clamped run at 0 (R59). -/
def seedTracker (cfg : PathConfig) (origin : TimingOrigin) (coarse : List Observation) : Tracker :=
  let table := orderAndMerge ((keptAtSeeding (coarse.filter (fun o => inDelayRange o.delay))).map seededEntry)
  let rel := relevantSet cfg.echoFloor table
  { table, origin := some origin, anchor := (target origin.guardLength cfg.bias rel).map clampDelay,
    spill := spills origin.guardLength rel, estimate := 0, clampedRun := 0 }

/-- The spread a SPILL notice carries, in ticks (R65). -/
def Tracker.spread (cfg : PathConfig) (t : Tracker) : Nat := (Machine.spread (relevantSet cfg.echoFloor t.table)).toNat

end Sys2Proof.Machine
end

