-- ==== Sys2Proof/Machine/Access.lean ====
section
/-! DEFINITION. Reading and writing one unit's part of the state: the one home of each register. -/

namespace Sys2Proof.Machine

open Sys2Proof

/-- The paths in ascending order. -/
def allPaths : List PathId := [.p0, .p1, .p2, .p3]

/-- The inputs in ascending order. -/
def allInputs : List InputId := [.a, .b]

/-- The outputs in ascending order. -/
def allOutputs : List OutputId := [.o0, .o1, .o2, .o3]

/-- The path after p, going round (R113). -/
def nextPath : PathId → PathId
  | .p0 => .p1
  | .p1 => .p2
  | .p2 => .p3
  | .p3 => .p0

/-- P0 to P3 as 0 to 3. -/
def pathNumber : PathId → Nat
  | .p0 => 0
  | .p1 => 1
  | .p2 => 2
  | .p3 => 3

/-- Unit numbers (R165). -/
def UnitId.number : UnitId → Nat
  | .device => 1
  | .input .a => 2
  | .input .b => 3
  | .path p => 4 + pathNumber p
  | .output .o0 => 8
  | .output .o1 => 9
  | .output .o2 => 10
  | .output .o3 => 11
  | .store => 12

/-- A port's value. -/
def Ports.get {α : Type} (t : Ports α) : Port → α
  | .cp => t.cp
  | .sp => t.sp

/-- Writes a port's value. -/
def Ports.set {α : Type} (t : Ports α) (p : Port) (x : α) : Ports α :=
  match p with
  | .cp => { t with cp := x }
  | .sp => { t with sp := x }

/-- A unit's value. -/
def PerUnit.get {α : Type} (t : PerUnit α) : UnitId → α
  | .device => t.device
  | .input .a => t.inputA
  | .input .b => t.inputB
  | .path .p0 => t.path0
  | .path .p1 => t.path1
  | .path .p2 => t.path2
  | .path .p3 => t.path3
  | .output .o0 => t.output0
  | .output .o1 => t.output1
  | .output .o2 => t.output2
  | .output .o3 => t.output3
  | .store => t.store

/-- Writes a unit's value. -/
def PerUnit.set {α : Type} (t : PerUnit α) (u : UnitId) (x : α) : PerUnit α :=
  match u with
  | .device => { t with device := x }
  | .input .a => { t with inputA := x }
  | .input .b => { t with inputB := x }
  | .path .p0 => { t with path0 := x }
  | .path .p1 => { t with path1 := x }
  | .path .p2 => { t with path2 := x }
  | .path .p3 => { t with path3 := x }
  | .output .o0 => { t with output0 := x }
  | .output .o1 => { t with output1 := x }
  | .output .o2 => { t with output2 := x }
  | .output .o3 => { t with output3 := x }
  | .store => { t with store := x }

/-- An input. -/
def Inputs.get (t : Inputs) : InputId → Input
  | .a => t.a
  | .b => t.b

/-- Writes an input. -/
def Inputs.set (t : Inputs) (i : InputId) (x : Input) : Inputs :=
  match i with
  | .a => { t with a := x }
  | .b => { t with b := x }

/-- A path. -/
def Paths.get (t : Paths) : PathId → Path
  | .p0 => t.p0
  | .p1 => t.p1
  | .p2 => t.p2
  | .p3 => t.p3

/-- Writes a path. -/
def Paths.set (t : Paths) (p : PathId) (x : Path) : Paths :=
  match p with
  | .p0 => { t with p0 := x }
  | .p1 => { t with p1 := x }
  | .p2 => { t with p2 := x }
  | .p3 => { t with p3 := x }

/-- An output. -/
def Outputs.get (t : Outputs) : OutputId → Output
  | .o0 => t.o0
  | .o1 => t.o1
  | .o2 => t.o2
  | .o3 => t.o3

/-- Writes an output. -/
def Outputs.set (t : Outputs) (o : OutputId) (x : Output) : Outputs :=
  match o with
  | .o0 => { t with o0 := x }
  | .o1 => { t with o1 := x }
  | .o2 => { t with o2 := x }
  | .o3 => { t with o3 := x }

/-- The same change at every output. -/
def Outputs.map (t : Outputs) (f : Output → Output) : Outputs :=
  { o0 := f t.o0, o1 := f t.o1, o2 := f t.o2, o3 := f t.o3 }

namespace State

/-- Changes an input. -/
def modInput (s : State) (i : InputId) (f : Input → Input) : State := { s with inputs := s.inputs.set i (f (s.inputs.get i)) }

/-- Changes a path. -/
def modPath (s : State) (p : PathId) (f : Path → Path) : State := { s with paths := s.paths.set p (f (s.paths.get p)) }

/-- Changes an output. -/
def modOutput (s : State) (o : OutputId) (f : Output → Output) : State := { s with outputs := s.outputs.set o (f (s.outputs.get o)) }

/-- Changes the store unit. -/
def modStore (s : State) (f : Store → Store) : State := { s with store := f s.store }

/-- Changes the device unit. -/
def modDevice (s : State) (f : Device → Device) : State := { s with device := f s.device }

/-- Changes the link block. -/
def modLink (s : State) (f : Link → Link) : State := { s with link := f s.link }

/-- An input unit. -/
abbrev input (s : State) (i : InputId) : Input := s.inputs.get i

/-- A path. -/
abbrev path (s : State) (p : PathId) : Path := s.paths.get p

/-- An output. -/
abbrev output (s : State) (o : OutputId) : Output := s.outputs.get o

end State

end Sys2Proof.Machine
end

