-- ==== Sys2Proof/Machine/Bytes.lean ====
section
/-! DEFINITION. Fields as the bytes of a frame, most significant byte first (00_scope.md 0.5, R164), and the frame check (R162). -/

namespace Sys2Proof.Machine

open Sys2Proof

/-- A number or code in one byte. -/
def u8 (n : Nat) : List Byte := [BitVec.ofNat 8 n]

/-- A number in two bytes. -/
def u16 (n : Nat) : List Byte := [BitVec.ofNat 8 (n / 256), BitVec.ofNat 8 n]

/-- A number in four bytes. -/
def u32 (n : Nat) : List Byte :=
  [BitVec.ofNat 8 (n / 16777216), BitVec.ofNat 8 (n / 65536), BitVec.ofNat 8 (n / 256), BitVec.ofNat 8 n]

/-- A 16-bit field. -/
def half (h : Half) : List Byte := u16 h.toNat

/-- A 32-bit field. -/
def word (w : Word) : List Byte := u32 w.toNat

/-- A signed number in two bytes, two's complement. -/
def i16 (i : Int) : List Byte := half (BitVec.ofInt 16 i)

/-- A flag: 0 clear, 1 set. -/
def flagByte (b : Bool) : List Byte := u8 (if b then 1 else 0)

/-- A field that can be absent: the presence byte, then the value, or as many zero bytes when it is absent (R164). -/
def optionalField {α : Type} (width : Nat) (enc : α → List Byte) : Option α → List Byte
  | none => u8 0 ++ List.replicate width 0
  | some a => u8 1 ++ enc a

/-- A list field: the one-byte count, then the entries (R164). -/
def listField {α : Type} (enc : α → List Byte) (as : List α) : List Byte := u8 as.length ++ as.flatMap enc

/-- Two bytes, the more significant first. -/
def half2 (hi lo : Byte) : Half := hi ++ lo

/-- The bits of a byte, most significant first. -/
def byteBits (b : Byte) : List Bool := [7, 6, 5, 4, 3, 2, 1, 0].map b.getLsbD

/-- One bit into the CRC register: generator x^16 + x^12 + x^5 + 1 (R162). -/
def crcBit (crc : Half) (b : Bool) : Half :=
  if (crc.getLsbD 15) != b then (crc <<< 1) ^^^ 0x1021 else crc <<< 1

/-- One byte into the CRC register, most significant bit first (R162). -/
def crcByte (crc : Half) (b : Byte) : Half :=
  (byteBits b).foldl crcBit crc

/-- The check of a frame: over the bytes from LEN through the last body byte, from 0xFFFF (R162). -/
def crc16 (bytes : List Byte) : Half := bytes.foldl crcByte 0xFFFF

/-- Mark, LEN, the counted bytes and CHECK (9.3); LEN counts the bytes from UNIT on. -/
def frameOf (counted : List Byte) : List Byte :=
  let spanned := u8 counted.length ++ counted
  u8 0x5A ++ spanned ++ half (crc16 spanned)

/-- A number brought to the nearer end of a range (R170). -/
def clampNat (lo hi n : Nat) : Nat := max lo (min hi n)

/-- See `clampNat`. -/
def clampInt (lo hi i : Int) : Int := max lo (min hi i)

end Sys2Proof.Machine
end

