-- ==== Sys2Proof/Machine/Notices.lean ====
section
/-! DEFINITION. Raising a notice, the notice queue, and the transmitters (chapter 10; R168, R169). -/

namespace Sys2Proof.Machine

open Sys2Proof

/-- The class a detail belongs to (10.1). -/
def NoticeDetail.cls : NoticeDetail → NoticeClass
  | .pathState _ _ _ => .pathState
  | .tuneResult _ _ _ => .tuneResult
  | .pathFault _ _ _ _ _ _ => .pathFault
  | .doubleFault _ _ _ _ _ _ => .doubleFault
  | .spill _ _ _ _ _ => .spill
  | .inputLevel _ _ _ _ _ => .inputLevel
  | .mastSupply _ _ _ => .mastSupply
  | .counterWrap _ => .counterWrap
  | .scanDone _ => .scanDone
  | .reference _ _ _ => .reference

/-- Bit and class code (R172). -/
def NoticeClass.code : NoticeClass → Nat
  | .pathState => 0
  | .tuneResult => 1
  | .pathFault => 2
  | .doubleFault => 3
  | .spill => 4
  | .inputLevel => 5
  | .mastSupply => 6
  | .counterWrap => 7
  | .scanDone => 8
  | .reference => 9

/-- All but PATH_FAULT and DOUBLE_FAULT (R172). -/
def NoticeClass.maskable : NoticeClass → Bool
  | .pathFault => false
  | .doubleFault => false
  | .pathState => true
  | .tuneResult => true
  | .spill => true
  | .inputLevel => true
  | .mastSupply => true
  | .counterWrap => true
  | .scanDone => true
  | .reference => true

/-- The class is enabled for the unit; an unmaskable class always is (R172, R175). -/
def Link.enabled (l : Link) (u : UnitId) (c : NoticeClass) : Bool := !c.maskable || (l.enables.get u).getLsbD c.code

/-- The record is an unsent one of this unit and class (R176). -/
def NoticeRecord.matches (n : NoticeRecord) (u : UnitId) (c : NoticeClass) : Bool := n.unit == u && n.detail.cls == c

/-- The merge of R176: the new detail and timestamp, the repeat count one more and staying at 255. -/
def NoticeRecord.merge (old new : NoticeRecord) : NoticeRecord :=
  { old with detail := new.detail, timestamp := new.timestamp, repeats := min 255 (old.repeats + 1) }

/-- The notice queue takes an offered record: merge, append, or discard and set the overrun latch (R176, R177). -/
def Link.offer (l : Link) (n : NoticeRecord) : Link :=
  if l.notices.any (fun m => m.matches n.unit n.detail.cls) then
    { l with notices := l.notices.map (fun m => if m.matches n.unit n.detail.cls then m.merge n else m) }
  else if l.notices.length < Config.noticeCap then { l with notices := l.notices ++ [n] }
  else { l with overrun := true }

/-- The CP transmitter waits at a frame boundary for the reset of the part (R185) or for a change of speed (R160) that takes effect before
the next frame begins (log 11, log 12). -/
def Link.heldAtBoundary (l : Link) : Bool :=
  l.resetDue || match l.speedPending with
    | [] => false
    | q :: _ => q.ahead == 0

/-- The speed in force on a port: the SP runs at 57,600 baud at all times (R160). -/
def Link.portSpeed (l : Link) : Port → LinkSpeed
  | .cp => l.cpSpeed
  | .sp => .b57600

/-- A port's transmitter begins a frame, at the speed then in force (R160, R169, R178). -/
def Link.send (l : Link) (p : Port) (f : TxFrame) : Link := { l with tx := l.tx.set p (some { frame := f, speed := l.portSpeed p }) }

/-- An idle CP transmitter begins the next frame: the head reply, else the head notice with its overrun flag written from the latch
(R169, R177, R178). -/
def Link.pumpCp (l : Link) : Link :=
  if l.tx.cp.isSome || l.heldAtBoundary then l
  else match l.replies.cp with
    | r :: rest =>
      { l.send .cp (.reply r) with
        replies := { l.replies with cp := rest }, speedPending := l.speedPending.map (fun q => { q with ahead := q.ahead - 1 }) }
    | [] => match l.notices with
      | n :: rest =>
        { l.send .cp (.notice { n with overrun := l.overrun }) with notices := rest, overrun := false }
      | [] => l

/-- An idle SP transmitter begins the head reply (R168). -/
def Link.pumpSp (l : Link) : Link :=
  if l.tx.sp.isSome then l
  else match l.replies.sp with
    | r :: rest => { l.send .sp (.reply r) with replies := { l.replies with sp := rest } }
    | [] => l

/-- The transmitter of a port begins its next frame if it is idle. -/
def Link.pump (l : Link) : Port → Link
  | .cp => l.pumpCp
  | .sp => l.pumpSp

/-- A unit raises a notice: the class is tested, the record formed and offered, and an idle CP transmitter sends it at once
(R175, R176, R169). -/
def Link.raise (l : Link) (uptime : Word) (u : UnitId) (d : NoticeDetail) : Link :=
  if l.enabled u d.cls then (l.offer { unit := u, detail := d, repeats := 0, overrun := false, timestamp := uptime }).pumpCp
  else l

/-- A unit raises a notice, stamped with the uptime (R175). -/
def State.raise (s : State) (u : UnitId) (d : NoticeDetail) : State := { s with link := s.link.raise s.device.uptime u d }

/-- A reply joins the tail of its port's reply queue, and an idle transmitter sends it at once (R166, R168). -/
def Link.reply (l : Link) (p : Port) (r : Reply) : Link :=
  ({ l with replies := l.replies.set p (l.replies.get p ++ [r]) }).pump p

/-- A port's transmitter reaches the end of its frame (R169); a reply that the reset of the part follows makes the reset due (R185). -/
def Link.frameEnd (l : Link) (p : Port) : Link :=
  match l.tx.get p with
  | none => l
  | some f =>
    let due := match f.frame with
      | .reply r => r.thenReset
      | .notice _ => false
    ({ l with tx := l.tx.set p none, resetDue := l.resetDue || due }).pump p

end Sys2Proof.Machine
end

