-- ==== Sys2Proof/Machine/Quality.lean ====
section
/-! DEFINITION. The quality window and its result as pure functions (4.2, R80). -/

namespace Sys2Proof.Machine

open Sys2Proof

/-- A window that begins, with the length of WINDOW_EXP as it stands (R74). -/
def freshWindow (cfg : PathConfig) : Window := { length := 2 ^ cfg.windowExp, counted := 0, unblanked := 0, sum := 0 }

/-- One symbol into a window (R74). -/
def Window.take (w : Window) (blanked : Bool) (q : Nat) : Window :=
  if blanked then { w with counted := w.counted + 1 }
  else { w with counted := w.counted + 1, unblanked := w.unblanked + 1, sum := w.sum + q }

/-- The greatest k up to the start with 100 × log10(65536 / m) ≥ k − 1/2, given m^200, or 0. In whole numbers the test reads
10^(2k − 1) × m^200 ≤ 65536^200. -/
def merFrom (m200 : Nat) : Nat → Nat
  | 0 => 0
  | k + 1 => if 10 ^ (2 * k + 1) * m200 ≤ 65536 ^ 200 then k + 1 else merFrom m200 k

/-- MER = 100 × log10(65536 / m) rounded to the nearest, halves up, limited to 0 to 400; 400 for m = 0 (R75). The arithmetic is exact. -/
def merOf (m : Nat) : Nat := if m = 0 then 400 else merFrom (m ^ 200) 400

/-- The result of a window that has counted its N-th symbol (R75). -/
def Window.result (w : Window) : Quality :=
  if 2 * w.unblanked < w.length then .invalid else .mer (merOf (w.sum / w.unblanked))

/-- Below threshold: INVALID, or a MER less than the loss threshold (R80). -/
def belowThreshold (cfg : PathConfig) : Quality → Bool
  | .none => false
  | .invalid => true
  | .mer n => n < cfg.lossThreshold

/-- Recovered: a MER at least the loss threshold plus the hysteresis (R80). -/
def recovered (cfg : PathConfig) : Quality → Bool
  | .none => false
  | .invalid => false
  | .mer n => cfg.lossThreshold + cfg.recoveryHyst ≤ n

end Sys2Proof.Machine
end

