-- ==== Sys2Proof/Machine/Flags.lean ====
section
/-! DEFINITION. What is read off a state: membership, symbol timing, count inhibit, page need, the level flags, notice-enable sets. -/

namespace Sys2Proof.Machine

open Sys2Proof

/-! ### Views of a path -/

/-- The states in which a path is attached to its input (R5, R20). -/
def PathState.attached : PathState → Bool
  | .off => false
  | .idle => false
  | .search => true
  | .symbol => true
  | .frame => true
  | .pageWait => true
  | .fill => true
  | .locked => true
  | .holdover => true
  | .scan => true
  | .fault => false
  | .halt => false

/-- The states in which a member counts as acquiring for the gain hold (R5). -/
def PathState.acquiring : PathState → Bool
  | .search => true
  | .symbol => true
  | .frame => true
  | .scan => true
  | .off => false
  | .idle => false
  | .pageWait => false
  | .fill => false
  | .locked => false
  | .holdover => false
  | .fault => false
  | .halt => false

/-- FILL, LOCKED and HOLDOVER: the states that hold pages (R20), are sent gain changes (R11) and reference steps (R184). -/
def PathState.holding : PathState → Bool
  | .fill => true
  | .locked => true
  | .holdover => true
  | .off => false
  | .idle => false
  | .search => false
  | .symbol => false
  | .frame => false
  | .pageWait => false
  | .scan => false
  | .fault => false
  | .halt => false

/-- The states whose entry empties the queues of the bound outputs (R127). -/
def PathState.flushes : PathState → Bool
  | .search => true
  | .idle => true
  | .pageWait => true
  | .scan => true
  | .fault => true
  | .halt => true
  | .off => true
  | .symbol => false
  | .frame => false
  | .fill => false
  | .locked => false
  | .holdover => false

/-- The input a path is attached to: of its scan record in SCAN, of its tune record in the other attached states (R5, R22). -/
def Path.attachedTo (x : Path) : Option InputId :=
  if x.state = .scan then x.scan.map ScanRecord.input
  else if x.state.attached then x.tune.map TuneRecord.input
  else none

/-- The path has symbol timing (R20, R21). -/
def Path.hasTiming (x : Path) : Bool :=
  match x.state with
  | .symbol => true
  | .frame => true
  | .pageWait => true
  | .fill => true
  | .locked => true
  | .holdover => x.holdTiming
  | .scan => match x.scan with
    | some r => r.phase != .search
    | none => false
  | .off => false
  | .idle => false
  | .search => false
  | .fault => false
  | .halt => false

/-- The states in which a symbol of the path can be in progress outside a scan (R20, R21). -/
def PathState.keepsSymbol : PathState → Bool
  | .symbol => true
  | .frame => true
  | .pageWait => true
  | .fill => true
  | .locked => true
  | .holdover => true
  | .off => false
  | .idle => false
  | .search => false
  | .scan => false
  | .fault => false
  | .halt => false

/-- A symbol begins, if the path has symbol timing: without marks, and with the anchor as it now stands (R66). -/
def Path.nextSymbol (x : Path) : Path :=
  { x with symbol := .clear, symbolAnchor := if x.hasTiming then x.tracker.anchor else none }

/-- The receive window of the symbol in progress, from its earliest to its latest delay: one guard length back from the anchor the symbol
started with (3.5, R66). -/
def Path.receiveWindow (x : Path) : Option (Int × Int) := x.symbolAnchor.map (fun a => (a - x.tracker.guardLength, a))

/-- A tune is in flight: the record is present with result PENDING (R22). -/
def Path.tuneInFlight (x : Path) : Bool :=
  match x.tune with
  | some t => t.result == .pending
  | none => false

/-- Steps of the path's counters are inhibited in its state (R156). -/
def Path.inhibited (x : Path) : Bool :=
  match x.state with
  | .search => x.config.inhibitAcquiring
  | .symbol => x.config.inhibitAcquiring
  | .frame => x.config.inhibitAcquiring
  | .pageWait => x.config.inhibitAcquiring
  | .fill => x.config.inhibitAcquiring
  | .holdover => x.config.inhibitHoldover
  | .locked => false
  | .scan => false
  | .off => false
  | .idle => false
  | .fault => false
  | .halt => false

/-- A path that delivers packets: LOCKED, and HOLDOVER while timing is present (R20, R89). -/
def Path.delivers (x : Path) : Bool := x.state == .locked || (x.state == .holdover && x.holdTiming)

/-- A path that forms bursts: FILL, LOCKED, and HOLDOVER while timing is present (R106). -/
def Path.formsBursts (x : Path) : Bool :=
  x.state == .fill || x.state == .locked || (x.state == .holdover && x.holdTiming)

/-- The paths an input serves, in ascending order: the attached-path set (R5). -/
def State.attached (s : State) (i : InputId) : List PathId := allPaths.filter (fun p => (s.path p).attachedTo == some i)

/-- The path's input is RUNNING, so the path's stages deliver events (R4, R21). -/
def State.stagesRun (s : State) (p : PathId) : Bool :=
  match (s.path p).attachedTo with
  | some i => (s.input i).state == .running
  | none => false

/-- An impulse event is in progress at the path's input (R14). -/
def State.impulseAt (s : State) (p : PathId) : Bool :=
  match (s.path p).attachedTo with
  | some i => (s.input i).impulse
  | none => false

/-! ### Channels and the front end (00_scope.md 0.5, R22, R136) -/

/-- The last channel of a band. -/
def lastChannel : Band → Nat
  | .iii => 12
  | .uhf => 48

/-- The first channel of a band. -/
def firstChannel : Band → Nat
  | .iii => 5
  | .uhf => 21

/-- A channel lies in its band. -/
def channelInBand (b : Band) (c : Nat) : Bool := firstChannel b ≤ c && c ≤ lastChannel b

/-- Centre frequency in kHz: 142.5 + 7 × channel MHz, 306 + 8 × channel MHz (00_scope.md 0.5). -/
def centreKHz : Band → Nat → Int
  | .iii, c => 142500 + 7000 * (c : Int)
  | .uhf, c => 306000 + 8000 * (c : Int)

/-- What a path tunes its input's front end to while it is attached, in kHz (R22, R136). -/
def Path.tunedKHz (x : Path) : Option Int :=
  if x.state = .scan then x.scan.map (fun r => centreKHz r.band r.current)
  else if x.state.attached then x.tune.map (fun t => centreKHz t.band t.channel + t.offset)
  else none

/-! ### Signalling records (R23) -/

/-- Every field of the record lies in the supported values (R23). -/
def supportedRecord (r : SigRecord) : Bool :=
  r.symbolMode.toNat < 3 && r.guardFraction.toNat < 4 && r.constellation.toNat < 4 && r.codeRate.toNat < 6 &&
  1 ≤ r.depth.toNat && r.depth.toNat ≤ 4194304 && 1000000 ≤ r.streamRate.toNat && r.streamRate.toNat ≤ 60000000

/-- The page need n = ceil(depth / 65,536) (2.4, R92). -/
def pageNeed (r : SigRecord) : Nat := (r.depth.toNat + (Config.cellsPerPage - 1)) / Config.cellsPerPage

/-- The code of a symbol mode in a record (R23). -/
def modeCode : SymbolMode → Nat
  | .m2k => 0
  | .m8k => 1
  | .m32k => 2

/-- The code of a guard fraction in a record (R23). -/
def guardCode : GuardFraction → Nat
  | .g32 => 0
  | .g16 => 1
  | .g8 => 2
  | .g4 => 3

/-- Bursts formed in each symbol, B, by the held record's symbol mode (R106). -/
def burstsPerSymbol (r : SigRecord) : Nat :=
  if r.symbolMode = 0 then 2 else if r.symbolMode = 1 then 4 else 8

/-! ### Level flags (R10) -/

/-- WEAK at the close of a period, by the gain in force during it (R10). -/
def weakAt (x : Input) (occupancy : Nat) : Bool := x.gain == 63 && occupancy < x.low

/-- OVERLOAD at the close of a period, by the gain in force during it (R10). -/
def overloadAt (x : Input) (clipCount : Nat) : Bool := x.gain == 0 && x.clipLimit < clipCount

/-- The gain after an AUTO period (R7); `acquiring` is whether a member of the attached-path set is acquiring. -/
def autoGain (x : Input) (occupancy clipCount : Nat) (acquiring : Bool) : Nat :=
  if x.clipLimit < clipCount then x.gain - 2
  else if acquiring then x.gain
  else if x.high < occupancy then x.gain - 1
  else if occupancy < x.low then min 63 (x.gain + 1)
  else x.gain

/-! ### Notice-enable sets (R172) -/

/-- Bits of the maskable classes. -/
abbrev maskableBits : Half := 0x03F3

/-- All ten classes enabled. -/
abbrev allEnabled : Half := 0x03FF

/-- AND keeps a class enabled where its mask bit is set; the ignored bits keep (R172). -/
def maskAnd (old mask : Half) : Half := old &&& (mask ||| ~~~maskableBits)

/-- OR enables each class whose mask bit is set (R172). -/
def maskOr (old mask : Half) : Half := old ||| (mask &&& maskableBits)

/-- XOR inverts each class whose mask bit is set (R172). -/
def maskXor (old mask : Half) : Half := old ^^^ (mask &&& maskableBits)

/-- One class's bit of a set. -/
def classBit (c : NoticeClass) : Half := BitVec.ofNat 16 (2 ^ c.code)

/-- A set with one class enabled or disabled. -/
def setClass (e : Half) (c : NoticeClass) (b : Bool) : Half := if b then e ||| classBit c else e &&& ~~~(classBit c)

/-- The values a first fault saves (R146, R147). -/
def saveEnables (e : Half) : SavedEnables :=
  { pathState := e.getLsbD NoticeClass.pathState.code, spill := e.getLsbD NoticeClass.spill.code,
    counterWrap := e.getLsbD NoticeClass.counterWrap.code }

/-- The three classes disabled (R147). -/
def disableThree (e : Half) : Half := setClass (setClass (setClass e .pathState false) .spill false) .counterWrap false

/-- The three classes at their saved values (R152). -/
def restoreThree (e : Half) (v : SavedEnables) : Half :=
  setClass (setClass (setClass e .pathState v.pathState) .spill v.spill) .counterWrap v.counterWrap

end Sys2Proof.Machine
end

