-- ==== Sys2Proof/Machine/Ops.lean ====
section
/-! DEFINITION. The shared operations: counting, entering a path state, the pages of the store, ending a tune, a path's fault, windows and
latched rates. Each is one function from state to state that the meanings call. -/

namespace Sys2Proof.Machine

open Sys2Proof

/-- A command while the part runs: while the RESET pin is held the part does nothing (R185). -/
def live (s : State) (f : State → State) : Host.Outcome State Fault Refusal := .next (if s.resetHeld then s else f s)

/-! ### Counters (8.9) -/

/-- The six counters of a path, in counter-number order (R154). -/
inductive PathCounter where
  | good | corrected | failed | blanked | storeLate | anchorMoves
  deriving DecidableEq, Repr

/-- The ten kinds of counter, by unit (R154). -/
inductive CounterId where
  | path (p : PathId) (c : PathCounter)
  | clip (i : InputId)
  | impulse (i : InputId)
  | fill (o : OutputId)
  | dropped (o : OutputId)
  deriving DecidableEq, Repr

/-- Counter number within a path (R154). -/
def PathCounter.number : PathCounter → Nat
  | .good => 0
  | .corrected => 1
  | .failed => 2
  | .blanked => 3
  | .storeLate => 4
  | .anchorMoves => 5

/-- A path's counter. -/
def PathCounters.get (t : PathCounters) : PathCounter → Counter
  | .good => t.good
  | .corrected => t.corrected
  | .failed => t.failed
  | .blanked => t.blanked
  | .storeLate => t.storeLate
  | .anchorMoves => t.anchorMoves

/-- Writes a path's counter. -/
def PathCounters.set (t : PathCounters) (c : PathCounter) (x : Counter) : PathCounters :=
  match c with
  | .good => { t with good := x }
  | .corrected => { t with corrected := x }
  | .failed => { t with failed := x }
  | .blanked => { t with blanked := x }
  | .storeLate => { t with storeLate := x }
  | .anchorMoves => { t with anchorMoves := x }

/-- The unit that has the counter. -/
def CounterId.unit : CounterId → UnitId
  | .path p _ => .path p
  | .clip i => .input i
  | .impulse i => .input i
  | .fill o => .output o
  | .dropped o => .output o

/-- The counter's number in its unit (R154). -/
def CounterId.number : CounterId → Nat
  | .path _ c => c.number
  | .clip _ => 0
  | .impulse _ => 1
  | .fill _ => 0
  | .dropped _ => 1

/-- A counter. -/
def State.counter (s : State) : CounterId → Counter
  | .path p c => (s.path p).counters.get c
  | .clip i => (s.input i).clip
  | .impulse i => (s.input i).impulses
  | .fill o => (s.output o).fill
  | .dropped o => (s.output o).dropped

/-- Writes a counter. -/
def State.setCounter (s : State) (c : CounterId) (x : Counter) : State :=
  match c with
  | .path p c => s.modPath p (fun y => { y with counters := y.counters.set c x })
  | .clip i => s.modInput i (fun y => { y with clip := x })
  | .impulse i => s.modInput i (fun y => { y with impulses := x })
  | .fill o => s.modOutput o (fun y => { y with fill := x })
  | .dropped o => s.modOutput o (fun y => { y with dropped := x })

/-- One step of a counter's value: a wrap to 0 sets the overflow flag (R154, R155). -/
def Counter.step (c : Counter) : Counter :=
  { value := c.value + 1, overflow := c.overflow || c.value == 0xFFFFFFFF }

/-- Steps a counter; a wrap that finds the flag clear raises COUNTER_WRAP (R155). -/
def State.count (s : State) (c : CounterId) : State :=
  let stepped := s.setCounter c (s.counter c).step
  if (s.counter c).value == 0xFFFFFFFF && !(s.counter c).overflow then stepped.raise c.unit (.counterWrap c.number) else stepped

/-- Steps a path's counter unless its state's class is inhibited (R156). -/
def State.countPath (s : State) (p : PathId) (c : PathCounter) : State :=
  if (s.path p).inhibited then s else s.count (.path p c)

/-- The counters of a unit in counter-number order (R154). -/
def unitCounters : UnitId → List CounterId
  | .device => []
  | .input i => [.clip i, .impulse i]
  | .path p => [.path p .good, .path p .corrected, .path p .failed, .path p .blanked, .path p .storeLate, .path p .anchorMoves]
  | .output o => [.fill o, .dropped o]
  | .store => []

/-- Every unit with counters, in ascending unit number. -/
def countingUnits : List UnitId :=
  [.input .a, .input .b, .path .p0, .path .p1, .path .p2, .path .p3, .output .o0, .output .o1, .output .o2, .output .o3]

/-- The wrap summary: the counters whose overflow flag is set, by unit number and then counter number (R159). -/
def State.wrapSummary (s : State) : List CounterId :=
  (countingUnits.flatMap unitCounters).filter (fun c => (s.counter c).overflow)

/-! ### Entering a path state -/

/-- What a path's own state becomes on an entry. Timers: all stop, and the timer of the state entered starts (R30, R32, R84). SEARCH and OFF
clear the echo tracker (R49), SEARCH the signalling record (R23). The window begins or is discarded (R77). A state without symbol timing
has no symbol in progress; the first symbol in SYMBOL starts with the anchor that seeding placed (R66). -/
def Path.enter (x : Path) (new : PathState) : Path :=
  { x with
    state := new
    searchTimer := if new = .search then some Config.searchMs else none
    symbolTimer := if new = .symbol then some Config.symbolMs else none
    frameTimer := if new = .frame then some Config.frameMs else none
    holdoverTimer := if new = .holdover then some x.config.holdoverTime else none
    tracker := if new = .search ∨ new = .off then Tracker.cleared else x.tracker
    sig := if new = .search then none else x.sig
    frameFound := if new = .frame then true else if new = .search then false else x.frameFound
    window := match new with
      | .fill => some (freshWindow x.config)
      | .locked => some (freshWindow x.config)
      | .holdover => x.window
      | .off => none
      | .idle => none
      | .search => none
      | .symbol => none
      | .frame => none
      | .pageWait => none
      | .scan => none
      | .fault => none
      | .halt => none
    symbol := if new.keepsSymbol then x.symbol else .clear
    symbolAnchor := if new = .symbol then x.tracker.anchor else if new.keepsSymbol then x.symbolAnchor else none }

/-- An output's queue is emptied, without stepping DROPPED, when its path enters a state that delivers no more (R127). -/
def Output.flushFor (p : PathId) (x : Output) : Output := if x.bound = some p then { x with queue := [] } else x

/-- A path enters a state, and its bound outputs act on their queues (R127). -/
def State.enterPath (s : State) (p : PathId) (new : PathState) : State :=
  let s := s.modPath p (fun x => x.enter new)
  if new.flushes then { s with outputs := s.outputs.map (Output.flushFor p) } else s

/-- A path enters a state and raises PATH_STATE with the old state, the new one and the reason (R41). -/
def State.movePath (s : State) (p : PathId) (new : PathState) (reason : Reason) : State :=
  (s.enterPath p new).raise (.path p) (.pathState (s.path p).state new reason)

/-! ### Pages (5.1 to 5.3) -/

/-- Where a cell of the path's interleaving period lies: the page, and the cell within it. The cells are placed in the pages in list order,
the first 65,536 in the first page (R95); none beyond the pages held. R95 gives the page alone: that the cells of a page stand in it in
their order in the period is the model's choice (log 32). -/
def Path.cellPlace (x : Path) (cell : Nat) : Option (Nat × Nat) :=
  x.pages[cell / Config.cellsPerPage]?.map (fun page => (page, cell % Config.cellsPerPage))

/-- A grant: the first n free pages to the tail of the path's list (R98). -/
def State.grant (s : State) (p : PathId) (n : Nat) : State :=
  (s.modPath p (fun x => { x with pages := x.pages ++ s.store.free.take n })).modStore
    (fun t => { t with free := t.free.drop n, alloc := t.alloc + 1 })

/-- A release of all but the first `keep` pages of a path's list to the tail of the free list (R99, R103). -/
def State.releasePages (s : State) (p : PathId) (keep : Nat) : State :=
  (s.modStore (fun t => { t with free := t.free ++ (s.path p).pages.drop keep, alloc := t.alloc + 1 })).modPath p
    (fun x => { x with pages := x.pages.take keep })

/-- A burst of the path that holds the DRAM runs on, its data to be discarded (R115). -/
def Service.markStale (p : PathId) : Service → Service
  | .idle => .idle
  | .refresh => .refresh
  | .burst q dir stale => .burst q dir (stale || q == p)

/-- The path's staging queue is emptied: no erasure, no count, the discard run 0 and the current symbol without a discard (R107, R115). -/
def State.dropStaging (s : State) (p : PathId) : State :=
  (s.modPath p (fun x => { x with staging := [], discardRun := 0, symbol := { x.symbol with discard := false } })).modStore
    (fun t => { t with service := t.service.markStale p })

/-- Grants heads of the wait queue in order while each fits (R100); the first argument bounds the grants by the queue's length. -/
def State.examineUpTo : Nat → State → State
  | 0, s => s
  | n + 1, s =>
    match s.store.wait with
    | [] => s
    | w :: rest =>
      if w.need ≤ s.store.free.length then
        State.examineUpTo n
          (((s.modStore (fun t => { t with wait := rest })).grant w.path w.need).movePath w.path .fill .pages)
      else s

/-- An examination of the wait queue (R100). -/
def State.examine (s : State) : State := State.examineUpTo s.store.wait.length s

/-- A path releases its whole holding, and the store examines its queue (R99, R100, R107). -/
def State.releaseHolding (s : State) (p : PathId) : State :=
  if (s.path p).pages.isEmpty then s else ((s.releasePages p 0).dropStaging p).examine

/-- The path stands in the wait queue. -/
def State.waits (s : State) (p : PathId) : Bool := s.store.wait.any (fun w => w.path == p)

/-- The need the path waits for in the wait queue; 0 when it does not stand in it (R96). -/
def State.waitedNeed (s : State) (p : PathId) : Nat :=
  match s.store.wait.find? (fun w => w.path == p) with
  | some w => w.need
  | none => 0

/-- A path withdraws from the wait queue, and the store examines it (R101). -/
def State.withdraw (s : State) (p : PathId) : State :=
  if s.waits p then (s.modStore (fun t => { t with wait := t.wait.filter (fun w => w.path != p) })).examine else s

/-- A path that leaves its state gives up what it has at the store: its pages, or its place in the queue (R20, R99, R101). -/
def State.giveUpStore (s : State) (p : PathId) : State := (s.releaseHolding p).withdraw p

/-- The store can grant a request at once: the queue is empty and the free count covers it (R97). -/
def State.canGrant (s : State) (n : Nat) : Bool := s.store.wait.isEmpty && n ≤ s.store.free.length

/-- A path joins the tail of the wait queue (R96). -/
def State.joinQueue (s : State) (p : PathId) (n : Nat) : State :=
  s.modStore (fun t => { t with wait := t.wait ++ [{ path := p, need := n }] })

/-! ### Tunes, scans, windows, rates -/

/-- A tune in flight ends: the result is written and TUNE_RESULT raised; a tune already ended, or none, raises nothing (R40). -/
def State.endTune (s : State) (p : PathId) (result : TuneResult) : State :=
  match (s.path p).tune with
  | none => s
  | some t =>
    if t.result = .pending then
      (s.modPath p (fun x => { x with tune := some { t with result } })).raise (.path p) (.tuneResult t.sender result t.attempts)
    else s

/-- A scan in progress ends early: SCAN_DONE with the record as it stands and the stopped flag set, and the record becomes absent (R144). -/
def State.stopScan (s : State) (p : PathId) : State :=
  match (s.path p).scan with
  | none => s
  | some r => (s.raise (.path p) (.scanDone { r with stopped := true })).modPath p (fun x => { x with scan := none })

/-- A running window restarts, its partial sum discarded; a path with no window is not changed (R78). -/
def Path.restartWindow (x : Path) : Path := { x with window := x.window.map (fun _ => freshWindow x.config) }

/-- The null packet (R128). -/
def nullPacket : Packet :=
  { byte0 := 0x47, byte1 := 0x1F, byte2 := 0xFF, byte3 := 0x10, payload := List.replicate 184 0xFF }

/-- A slot starts at an output: the head of its queue, or a null packet stepping FILL, goes on the line at the latched rate
(R123, R126). -/
def State.startSlot (s : State) (o : OutputId) : State :=
  match (s.output o).queue with
  | head :: rest => s.modOutput o (fun x => { x with queue := rest, line := some { packet := head, rate := x.rate } })
  | [] => (s.modOutput o (fun x => { x with line := some { packet := nullPacket, rate := x.rate } })).count (.fill o)

/-- The first slot of an output that enters RUNNING begins at once (R120, R122); a packet still in progress from before finishes first, and
the next SLOT_START begins the slot after it (R121, R132, log 14). -/
def State.beginFirstSlot (s : State) (o : OutputId) : State := if (s.output o).line.isNone then s.startSlot o else s

/-- An output bound to a path takes the rate the path latched on entry to LOCKED (R122). -/
def State.takeRate (s : State) (p : PathId) (rate : Word) (o : OutputId) : State :=
  if (s.output o).bound = some p then
    match (s.output o).state with
    | .off => s
    | .silent => (s.modOutput o (fun x => { x with state := .running, rate := some rate })).beginFirstSlot o
    | .running => s.modOutput o (fun x => { x with rate := some rate })
  else s

/-- A path latches the stream rate of its signalling record, and the outputs bound to it take it (R36, R85, R122), in ascending order
(log 9). -/
def State.latchRate (s : State) (p : PathId) : State :=
  match (s.path p).sig with
  | none => s
  | some h =>
    allOutputs.foldl (fun s o => s.takeRate p h.record.streamRate o)
      (s.modPath p (fun x => { x with latched := some h.record.streamRate }))

/-- The path's current symbol is marked blanked, once, and BLANKED steps (R14). -/
def State.markBlanked (s : State) (p : PathId) : State :=
  if (s.path p).hasTiming && !(s.path p).symbol.blanked then
    (s.modPath p (fun x => { x with symbol := { x.symbol with blanked := true } })).countPath p .blanked
  else s

/-- A symbol that begins, or comes into timing, during an impulse event of the path's input is blanked (R14, log 21). -/
def State.blankIfImpulse (s : State) (p : PathId) : State := if s.impulseAt p then s.markBlanked p else s

/-! ### A path's fault (chapter 8) -/

/-- How a tune in flight ends at a fault (R147, R150). -/
def FaultCause.tuneResult : FaultCause → TuneResult
  | .unsupportedSignal => .unsupported
  | .anchorRunaway => .stopped
  | .storeStall => .stopped

/-- Writes a unit's notice-enable set (R179). -/
def State.setEnables (s : State) (u : UnitId) (e : Half) : State :=
  s.modLink (fun l => { l with enables := l.enables.set u e })

/-- The first fault (R147). -/
def State.firstFault (s : State) (p : PathId) (cause : FaultCause) (value : Word) : State :=
  let before := s.path p
  let e := s.link.enables.get (.path p)
  let s := s.modPath p (fun x => { x with
    fault := { x.fault with hold := true, primary := some cause, saved := some (saveEnables e) } })
  let s := s.setEnables (.path p) (disableThree e)
  let s := s.giveUpStore p
  let s := s.enterPath p .fault
  let s := s.raise (.path p) (.pathFault cause before.state before.pages.length (before.tune.map TuneRecord.sender) before.tuneInFlight value)
  s.endTune p cause.tuneResult

/-- The second fault (R150). -/
def State.secondFault (s : State) (p : PathId) (cause : FaultCause) : State :=
  let before := s.path p
  let s := s.modPath p (fun x => { x with fault := { x.fault with secondary := some cause } })
  let s := s.giveUpStore p
  let s := s.enterPath p .halt
  let s := s.raise (.path p) (.doubleFault before.fault.primary cause before.state before.pages.length
    (before.tune.map TuneRecord.sender) before.tuneInFlight)
  let s := s.raise (.path p) (.pathState before.state .halt .fault)
  s.endTune p cause.tuneResult

/-- A path takes a fault: first or second by its fault hold (R145). -/
def State.takeFault (s : State) (p : PathId) (cause : FaultCause) (value : Word) : State :=
  if (s.path p).fault.hold then s.secondFault p cause else s.firstFault p cause value

end Sys2Proof.Machine
end

