-- ==== Sys2Proof/Machine/Delivery.lean ====
section
/-! DEFINITION. Packets from the decoder to the outputs and onto the lines (4.4, chapter 6). -/

namespace Sys2Proof.Machine

open Sys2Proof

/-- A decoded packet as an output sends it: the sync byte written (R128). -/
def syncedPacket (p : Packet) : Packet := { p with byte0 := 0x47 }

/-- The transport-error indicator set (R125, R128). -/
def markedPacket (p : Packet) : Packet := { syncedPacket p with byte1 := p.byte1 ||| 0x80 }

/-- What the error policy queues for a packet, if anything (R125). -/
def admitted (policy : Policy) (status : PacketStatus) (p : Packet) : Option Packet :=
  match status with
  | .good => some (syncedPacket p)
  | .corrected => some (syncedPacket p)
  | .failed => match policy with
    | .mark => some (markedPacket p)
    | .null => some nullPacket
    | .drop => none

/-- A packet arrives at an output's queue: the tail, or discarded at a full queue stepping DROPPED (R124). -/
def State.queuePacket (s : State) (o : OutputId) (p : Packet) : State :=
  if (s.output o).queue.length < Config.packetCap then s.modOutput o (fun x => { x with queue := x.queue ++ [p] })
  else s.count (.dropped o)

/-- A copy reaches an output: in OFF and SILENT it is discarded, in RUNNING the policy is applied (R119, R125). -/
def State.arriveAt (s : State) (p : PathId) (packet : Packet) (status : PacketStatus) (o : OutputId) : State :=
  if (s.output o).bound = some p ∧ (s.output o).state = .running then
    match admitted (s.output o).policy status packet with
    | some q => s.queuePacket o q
    | none => s
  else s

/-- The counter a status steps (R89). -/
def statusCounter : PacketStatus → PathCounter
  | .good => .good
  | .corrected => .corrected
  | .failed => .failed

/-- The decoder delivers a packet: it is counted, and a copy goes to every output bound to the path (R89, R90). That the outputs take their
copies from O0 to O3, after the path's own counter, is the model's choice (log 9): it orders the COUNTER_WRAP notices of DROPPED. -/
def packetDelivered (p : PathId) (packet : Packet) (status : PacketStatus) (s : State) : State :=
  if (s.path p).delivers && s.stagesRun p then
    allOutputs.foldl (fun s o => s.arriveAt p packet status o) (s.countPath p (statusCounter status))
  else s

/-- DECODED_PACKET (R89). -/
def execDecodedPacket (p : PathId) (packet : Packet) (status : PacketStatus) (s : State) : Host.Outcome State Fault Refusal :=
  live s (packetDelivered p packet status)

/-- A slot starts at a RUNNING output (R123, R126). -/
def slotStarts (o : OutputId) (s : State) : State := if (s.output o).state = .running then s.startSlot o else s

/-- SLOT_START (R123). -/
def execSlotStart (o : OutputId) (s : State) : Host.Outcome State Fault Refusal := live s (slotStarts o)

/-- The packet of the slot in progress finishes: the line of an output that is no longer RUNNING stops (R121, R132); a RUNNING output's
line goes on into its next slot. -/
def packetFinishes (o : OutputId) (s : State) : State :=
  if (s.output o).state = .running then s else s.modOutput o (fun x => { x with line := none })

/-- PACKET_IN_PROGRESS_FINISHES (R121). -/
def execPacketInProgressFinishes (o : OutputId) (s : State) : Host.Outcome State Fault Refusal := live s (packetFinishes o)

/-! ### The line (R119, R123) -/

/-- The 188 bytes of a packet (6.6). -/
def packetBytes (p : Packet) : List Byte := p.byte0 :: p.byte1 :: p.byte2 :: p.byte3 :: p.payload

/-- A packet on the line, one clock after another: the bits of each byte most significant first, valid high throughout, sync high during the
first byte (R123). -/
def packetLine (p : Packet) : List LineBit :=
  (packetBytes p).zipIdx.flatMap (fun e => (byteBits e.1).map (fun data => { data, valid := true, sync := e.2 == 0 }))

/-- What the slot in progress of an output sends; no slot, no clock, with valid and sync low (R119). -/
def Output.lineBits (x : Output) : List LineBit :=
  match x.line with
  | some slot => packetLine slot.packet
  | none => []

/-- The rate at which the clock of an output's line runs; none while it is stopped (R119, R121, R123). -/
def Output.clockRate (x : Output) : Option Word := x.line.bind Slot.rate

end Sys2Proof.Machine
end

