-- ==== Sys2Proof/Machine/InputEvents.lean ====
section
/-! DEFINITION. The inputs' own events: calibration, gain periods, impulses, the mast supply (chapter 1). -/

namespace Sys2Proof.Machine

open Sys2Proof

/-- The calibration timer expires: RUNNING, gain periods and impulse detection begin (R2). -/
def calibrated (i : InputId) (s : State) : State :=
  if (s.input i).state = .calibrating ∧ (s.input i).calibrationTimer.isSome then
    s.modInput i (fun x => { x with state := .running, calibrationTimer := none })
  else s

/-- CALIBRATION_TIMER_EXPIRY (R2). -/
def execCalibrationTimerExpiry (i : InputId) (s : State) : Host.Outcome State Fault Refusal := live s (calibrated i)

/-- A path sent a gain change or a reference step restarts its window in FILL, LOCKED or HOLDOVER (R11, R184). -/
def Path.windowEvent (x : Path) : Path := if x.state.holding then x.restartWindow else x

/-- The gain-change event reaches the attached paths in FILL, LOCKED or HOLDOVER (R11). -/
def State.gainChanged (s : State) (i : InputId) : State := (s.attached i).foldl (fun s p => s.modPath p Path.windowEvent) s

/-- The input's gain takes a value; the gain-change event follows when it differs from before (R11). -/
def State.setGain (s : State) (i : InputId) (g : Nat) : State :=
  if (s.input i).gain = g then s else (s.modInput i (fun x => { x with gain := g })).gainChanged i

/-- A member of the attached-path set is acquiring (R5, R7). -/
def State.anyAcquiring (s : State) (i : InputId) : Bool := (s.attached i).any (fun p => (s.path p).state.acquiring)

/-- The gain rule of the mode at the close of a period (R7, R8). -/
def gainRule (s : State) (i : InputId) (occupancy clipCount : Nat) : Nat :=
  match (s.input i).gainMode with
  | .auto => autoGain (s.input i) occupancy clipCount (s.anyAcquiring i)
  | .manual => (s.input i).gain

/-- The flags are written and INPUT_LEVEL raised once if either changed (R10). -/
def State.setLevel (s : State) (i : InputId) (weak overload : Bool) : State :=
  let old := s.input i
  let s := s.modInput i (fun x => { x with weak, overload })
  if old.weak = weak ∧ old.overload = overload then s
  else s.raise (.input i) (.inputLevel weak overload (s.input i).gain (s.input i).occupancy (s.input i).clipCount)

/-- The close of a gain period: figures stored, gain rule, level flags tested against the gain in force during the period, CLIP
(R6, R7, R8, R10, R12). -/
def gainPeriodClosed (i : InputId) (occupancy : Byte) (clipCount : Nat) (s : State) : State :=
  if (s.input i).state = .running then
    let clips := min 65535 clipCount
    let before := s.input i
    let gain := gainRule s i occupancy.toNat clips
    let s := s.modInput i (fun x => { x with occupancy := occupancy.toNat, clipCount := clips })
    let s := s.setGain i gain
    let s := s.setLevel i (weakAt before occupancy.toNat) (overloadAt before clips)
    if before.clipLimit < clips then s.count (.clip i) else s
  else s

/-- GAIN_PERIOD_CLOSE (R6). -/
def execGainPeriodClose (i : InputId) (occupancy : Byte) (clipCount : Nat) (s : State) : Host.Outcome State Fault Refusal :=
  live s (gainPeriodClosed i occupancy clipCount)

/-- A sample above the threshold begins an impulse event when detection is on and none is in progress: IMPULSE steps, and the symbols in
progress in the attached paths are blanked (R13, R14). That the paths are marked in ascending number, after the IMPULSE step, is the model's
choice (log 9): it orders the COUNTER_WRAP notices. -/
def impulseBegins (i : InputId) (magnitude : Byte) (s : State) : State :=
  let x := s.input i
  if x.state = .running ∧ x.impulseThreshold ≠ 0 ∧ x.impulse = false ∧ x.impulseThreshold < magnitude.toNat then
    let s := (s.modInput i (fun x => { x with impulse := true })).count (.impulse i)
    (s.attached i).foldl State.markBlanked s
  else s

/-- IMPULSE_EVENT_BEGINS (R13). -/
def execImpulseEventBegins (i : InputId) (magnitude : Byte) (s : State) : Host.Outcome State Fault Refusal :=
  live s (impulseBegins i magnitude)

/-- The impulse event in progress ends (R13). -/
def impulseEnds (i : InputId) (s : State) : State := s.modInput i (fun x => { x with impulse := false })

/-- IMPULSE_EVENT_ENDS (R13). -/
def execImpulseEventEnds (i : InputId) (s : State) : Host.Outcome State Fault Refusal := live s (impulseEnds i)

/-- The mast supply changes state, its timers are set, and MAST_SUPPLY is raised (R15). -/
def State.moveMast (s : State) (i : InputId) (new : MastState) (retries : Nat) (retryTimer tripFreeTimer : Timer) : State :=
  (s.modInput i (fun x => { x with mast := new, retries, retryTimer, tripFreeTimer })).raise (.input i)
    (.mastSupply (s.input i).mast new retries)

/-- An overcurrent in ON trips the supply, or locks it out at retry count 5 (R16). -/
def overcurrentTaken (i : InputId) (s : State) : State :=
  let x := s.input i
  if x.mast = .on then
    if x.retries < Config.retryCap then s.moveMast i .tripped x.retries (some Config.retryMs) none
    else s.moveMast i .lockout x.retries none none
  else s

/-- OVERCURRENT (R16). -/
def execOvercurrent (i : InputId) (s : State) : Host.Outcome State Fault Refusal := live s (overcurrentTaken i)

/-- The retry timer expires in TRIPPED: ON, one retry more, the trip-free timer starts (R16). -/
def retryTaken (i : InputId) (s : State) : State :=
  let x := s.input i
  if x.mast = .tripped ∧ x.retryTimer.isSome then s.moveMast i .on (x.retries + 1) none (some Config.tripFreeMs) else s

/-- RETRY_TIMER_EXPIRY (R16). -/
def execRetryTimerExpiry (i : InputId) (s : State) : Host.Outcome State Fault Refusal := live s (retryTaken i)

/-- The trip-free timer expires in ON: the retry count returns to 0 (R17). -/
def tripFreeTaken (i : InputId) (s : State) : State :=
  let x := s.input i
  if x.mast = .on ∧ x.tripFreeTimer.isSome then s.modInput i (fun x => { x with retries := 0, tripFreeTimer := none }) else s

/-- TRIP_FREE_TIMER_EXPIRY (R17). -/
def execTripFreeTimerExpiry (i : InputId) (s : State) : Host.Outcome State Fault Refusal := live s (tripFreeTaken i)

/-- The effect of a taken MAST item (R15). -/
def State.setMast (s : State) (i : InputId) (turnOn : Bool) : State :=
  let s := s.modInput i (fun x => { x with mastItem := turnOn })
  match (s.input i).mast, turnOn with
  | .off, true => s.moveMast i .on 0 none (some Config.tripFreeMs)
  | .off, false => s
  | .on, true => s
  | .on, false => s.moveMast i .off 0 none none
  | .tripped, true => s
  | .tripped, false => s.moveMast i .off 0 none none
  | .lockout, true => s.moveMast i .on 0 none (some Config.tripFreeMs)
  | .lockout, false => s.moveMast i .off 0 none none

end Sys2Proof.Machine
end

