-- ==== Sys2Proof/Machine/Reference.lean ====
section
/-! DEFINITION. The reference clock: its state, its events and the reference step (11.3). -/

namespace Sys2Proof.Machine

open Sys2Proof

/-- A reference step: every path in FILL, LOCKED or HOLDOVER restarts a running window (R184). -/
def State.referenceStep (s : State) : State := allPaths.foldl (fun s p => s.modPath p Path.windowEvent) s

/-- The reference clock changes state: the switch timer runs in SWITCHING alone, REFERENCE is raised, the step is sent (R183). -/
def State.moveReference (s : State) (new : RefState) (step : Bool) : State :=
  let s' := (s.modDevice (fun d => { d with reference := new, switchTimer := if new = .switching then some Config.switchMs else none })).raise
    .device (.reference s.device.reference new step)
  if step then s'.referenceStep else s'

/-- External returns: the flag becomes present, and FALLBACK begins the handover (R183). -/
def externalReturned (s : State) : State :=
  let s' := s.modDevice (fun d => { d with extPresent := true })
  match s.device.reference with
  | .internal => s'
  | .switching => s'
  | .external => s'
  | .fallback => s'.moveReference .switching false

/-- EXTERNAL_RETURNS (R183). -/
def execExternalReturns (s : State) : Host.Outcome State Fault Refusal := live s externalReturned

/-- External lost: the flag becomes absent, and SWITCHING or EXTERNAL falls back (R183). -/
def externalGone (s : State) : State :=
  let s' := s.modDevice (fun d => { d with extPresent := false })
  match s.device.reference with
  | .internal => s'
  | .switching => s'.moveReference .fallback false
  | .external => s'.moveReference .fallback true
  | .fallback => s'

/-- EXTERNAL_LOST (R183). -/
def execExternalLost (s : State) : Host.Outcome State Fault Refusal := live s externalGone

/-- The switch timer expires in SWITCHING: EXTERNAL, with a reference step (R183). -/
def switchExpired (s : State) : State :=
  if s.device.reference = .switching ∧ s.device.switchTimer.isSome then s.moveReference .external true else s

/-- SWITCH_TIMER_EXPIRY (R183). -/
def execSwitchTimerExpiry (s : State) : Host.Outcome State Fault Refusal := live s switchExpired

/-- A SET_REFERENCE naming INTERNAL, outside SWITCHING (R183). -/
def State.wantInternal (s : State) : State :=
  match s.device.reference with
  | .internal => s
  | .switching => s
  | .external => s.moveReference .internal true
  | .fallback => s.moveReference .internal false

/-- A SET_REFERENCE naming EXTERNAL, outside SWITCHING (R183). -/
def State.wantExternal (s : State) : State :=
  match s.device.reference with
  | .internal => if s.device.extPresent then s.moveReference .switching false else s.moveReference .fallback false
  | .switching => s
  | .external => s
  | .fallback => s

end Sys2Proof.Machine
end

