-- ==== Sys2Proof/Machine/Operands.lean ====
section
/-! DEFINITION. The operands of a request: verbs, units, the checks of dispatch, body fields, configuration items, conditions (chapter 9;
R180). -/

namespace Sys2Proof.Machine

open Sys2Proof

/-- The verbs (9.6). -/
inductive Verb where
  | getStatus | setConfig | getConfig | tune | stop | scan | ackFault | readTable | readCounters | clearCounters | maskNotices | bind
  | setUnits | setGrants | setReference | setLink | clearScan | resetUnit | resetDevice
  deriving DecidableEq, Repr

/-- The kinds of unit the verb table names (9.6). -/
inductive UnitKind where
  | device | input | path | output | store
  deriving DecidableEq, Repr

/-- Verb codes (9.6). -/
def verbOfCode (c : Byte) : Option Verb :=
  match c.toNat with
  | 0x01 => some .getStatus
  | 0x02 => some .setConfig
  | 0x03 => some .getConfig
  | 0x10 => some .tune
  | 0x11 => some .stop
  | 0x12 => some .scan
  | 0x13 => some .ackFault
  | 0x20 => some .readTable
  | 0x21 => some .readCounters
  | 0x22 => some .clearCounters
  | 0x23 => some .maskNotices
  | 0x30 => some .bind
  | 0x40 => some .setUnits
  | 0x41 => some .setGrants
  | 0x42 => some .setReference
  | 0x43 => some .setLink
  | 0x44 => some .clearScan
  | 0x50 => some .resetUnit
  | 0x51 => some .resetDevice
  | _ => none

/-- The unit of a UNIT byte (R165). -/
def unitOf (b : Byte) : Option UnitId :=
  match b.toNat with
  | 1 => some .device
  | 2 => some (.input .a)
  | 3 => some (.input .b)
  | 4 => some (.path .p0)
  | 5 => some (.path .p1)
  | 6 => some (.path .p2)
  | 7 => some (.path .p3)
  | 8 => some (.output .o0)
  | 9 => some (.output .o1)
  | 10 => some (.output .o2)
  | 11 => some (.output .o3)
  | 12 => some .store
  | _ => none

/-- A unit's kind. -/
def UnitId.kind : UnitId → UnitKind
  | .device => .device
  | .input _ => .input
  | .path _ => .path
  | .output _ => .output
  | .store => .store

/-- The kinds of unit that take a verb (9.6). -/
def Verb.takers : Verb → List UnitKind
  | .getStatus => [.device, .input, .path, .output, .store]
  | .setConfig => [.input, .path, .output]
  | .getConfig => [.input, .path, .output]
  | .tune => [.path]
  | .stop => [.path]
  | .scan => [.path]
  | .ackFault => [.path]
  | .readTable => [.path, .store, .device]
  | .readCounters => [.input, .path, .output]
  | .clearCounters => [.input, .path, .output]
  | .maskNotices => [.device, .input, .path, .output]
  | .bind => [.output]
  | .setUnits => [.device]
  | .setGrants => [.device]
  | .setReference => [.device]
  | .setLink => [.device]
  | .clearScan => [.device]
  | .resetUnit => [.input, .path, .output]
  | .resetDevice => [.device]

/-- The unit takes the verb (9.6). -/
def Verb.takenBy (v : Verb) (u : UnitId) : Bool := v.takers.contains u.kind

/-- The body lengths a verb allows (9.6). -/
def Verb.allowsLength (v : Verb) (n : Nat) : Bool :=
  match v with
  | .setConfig => 3 ≤ n && n % 3 == 0
  | .tune => n == 5
  | .scan => n == 4
  | .readTable => n == 2
  | .readCounters => n == 1
  | .clearCounters => n == 1
  | .maskNotices => n == 3
  | .bind => n == 1
  | .setUnits => n == 2
  | .setGrants => n == 1
  | .setReference => n == 1
  | .setLink => n == 1
  | .getStatus => n == 0
  | .getConfig => n == 0
  | .stop => n == 0
  | .ackFault => n == 0
  | .clearScan => n == 0
  | .resetUnit => n == 0
  | .resetDevice => n == 0

/-- The verbs that may carry a condition (R165, R171). -/
def Verb.conditional : Verb → Bool
  | .tune => true
  | .stop => true
  | .scan => true
  | .getStatus => false
  | .setConfig => false
  | .getConfig => false
  | .ackFault => false
  | .readTable => false
  | .readCounters => false
  | .clearCounters => false
  | .maskNotices => false
  | .bind => false
  | .setUnits => false
  | .setGrants => false
  | .setReference => false
  | .setLink => false
  | .clearScan => false
  | .resetUnit => false
  | .resetDevice => false

/-! ### Service-port access (R180) -/

/-- How the service port may use a verb: always, while a bit of the grant set is set, or never. -/
inductive Access where
  | always
  | granted (bit : Nat)
  | never
  deriving DecidableEq, Repr

/-- The bit COUNTERS_VIEW of the grant set. -/
abbrev countersViewBit : Nat := 6

/-- The access of a verb at a unit of a kind (R180). -/
def Verb.access (v : Verb) (k : UnitKind) : Access :=
  match v with
  | .getStatus => .always
  | .getConfig => .always
  | .readTable => .always
  | .setConfig => match k with
    | .input => .granted 0
    | .path => .granted 2
    | .output => .granted 3
    | .device => .never
    | .store => .never
  | .resetUnit => match k with
    | .input => .granted 0
    | .path => .granted 7
    | .output => .granted 3
    | .device => .never
    | .store => .never
  | .tune => .granted 1
  | .stop => .granted 1
  | .bind => .granted 3
  | .scan => .granted 4
  | .clearScan => .granted 4
  | .clearCounters => .granted 5
  | .readCounters => .granted countersViewBit
  | .ackFault => .granted 7
  | .setUnits => .never
  | .setGrants => .never
  | .setReference => .never
  | .setLink => .never
  | .maskNotices => .never
  | .resetDevice => .never

/-- The grant set holds the access (R180). -/
def Access.heldBy (a : Access) (grants : Byte) : Bool :=
  match a with
  | .always => true
  | .granted bit => grants.getLsbD bit
  | .never => false

/-! ### Dispatch (R165) -/

/-- A condition of a request: code and value (R171). -/
structure Condition where
  code : Byte
  value : Half
  deriving DecidableEq, Repr

/-- A request that dispatch has handed to its unit. -/
structure Taken where
  unit : UnitId
  port : Port
  tag : Byte
  wanted : Bool
  condition : Option Condition
  body : List Byte
  deriving DecidableEq, Repr

/-- FLAGS bit 0: reply wanted. -/
def replyWanted (r : Request) : Bool := r.flags.getLsbD 0

/-- FLAGS bit 1: condition present. -/
def hasCondition (r : Request) : Bool := r.flags.getLsbD 1

/-- The condition of a request that has one. -/
def conditionOf (r : Request) : Option Condition :=
  if hasCondition r then
    match r.tail with
    | code :: hi :: lo :: _ => some { code, value := half2 hi lo }
    | _ => none
  else none

/-- The body of a request: what follows FLAGS, less the condition (R163). -/
def bodyOf (r : Request) : List Byte := if hasCondition r then r.tail.drop 3 else r.tail

/-- A condition flag set with LEN below 7 (R165 check 5). -/
def tooShortForCondition (r : Request) : Bool := hasCondition r && r.tail.length < 3

/-- A condition code of R171. -/
def knownCondition (c : Condition) : Bool := 1 ≤ c.code.toNat && c.code.toNat ≤ 4

/-- A condition flag set on a verb that takes none, or a condition code not in R171 (R165 check 7). -/
def badConditionForm (v : Verb) (r : Request) : Bool :=
  match conditionOf r with
  | none => false
  | some c => !v.conditional || !knownCondition c

/-- The unit is enabled: the device and store always, the others by the unit-enable set (R182). -/
def State.unitEnabled (s : State) (u : UnitId) : Bool :=
  match u with
  | .device => true
  | .store => true
  | .input i => s.device.unitEnable.getLsbD (UnitId.input i).number
  | .path p => s.device.unitEnable.getLsbD (UnitId.path p).number
  | .output o => s.device.unitEnable.getLsbD (UnitId.output o).number

/-- Dispatch: the first refusal that applies, or the request for its unit (R165). -/
def State.dispatch (s : State) (verb : Option Verb) (r : Request) : Status ⊕ Taken :=
  match unitOf r.unit with
  | none => .inl .unknownUnit
  | some u =>
    match verb with
    | none => .inl .unknownVerb
    | some v =>
      if v.takenBy u = false then .inl .unknownVerb
      else if v ≠ .getStatus ∧ s.unitEnabled u = false then .inl .unitOff
      else if r.port = .sp ∧ (v.access u.kind).heldBy s.device.grants = false then .inl .notGranted
      else if tooShortForCondition r ∨ v.allowsLength (bodyOf r).length = false then .inl .badLength
      else if r.tag = 0 then .inl .badValue
      else if badConditionForm v r then .inl .badValue
      else .inr { unit := u, port := r.port, tag := r.tag, wanted := replyWanted r, condition := conditionOf r, body := bodyOf r }

/-- Tag and port of a taken request. -/
def Taken.sender (t : Taken) : TagPort := { tag := t.tag, port := t.port }

/-- The condition of the request holds at the path, or there is none (R171, R91). -/
def Taken.conditionHolds (t : Taken) (x : Path) : Bool :=
  match t.condition with
  | none => true
  | some c =>
    match c.code.toNat with
    | 1 => x.state != .locked
    | 2 => match x.quality with
      | .none => true
      | .invalid => true
      | .mer n => n < c.value.toNat
    | 3 => x.tracker.spill
    | 4 => x.state == .idle
    | _ => false

/-! ### Body fields (9.6) -/

/-- An input code. -/
def inputOf (b : Byte) : Option InputId := if b = 0 then some .a else if b = 1 then some .b else none

/-- A band code. -/
def bandOf (b : Byte) : Option Band := if b = 0 then some .iii else if b = 1 then some .uhf else none

/-- A path code of BIND: a path, or none for 0xFF; an undefined code gives nothing. -/
def bindingOf (b : Byte) : Option (Option PathId) :=
  match b.toNat with
  | 0 => some (some .p0)
  | 1 => some (some .p1)
  | 2 => some (some .p2)
  | 3 => some (some .p3)
  | 255 => some none
  | _ => none

/-- A CP speed code (R160). -/
def speedOf (b : Byte) : Option LinkSpeed :=
  match b.toNat with
  | 0 => some .b57600
  | 1 => some .b115200
  | 2 => some .b230400
  | 3 => some .b460800
  | _ => none

/-- The code of a CP speed (R160). -/
def LinkSpeed.code : LinkSpeed → Nat
  | .b57600 => 0
  | .b115200 => 1
  | .b230400 => 2
  | .b460800 => 3

/-- The counters a selection mask names, in counter-number order; none for a bit of a counter the unit does not have (R157, R170). -/
def selection {α : Type} (all : List α) (mask : Byte) : Option (List α) :=
  if mask = 0 then some all
  else if 2 ^ all.length ≤ mask.toNat then none
  else some ((all.zipIdx.filter (fun e => mask.getLsbD e.2)).map Prod.fst)

/-! ### Configuration items (9.6, R42, R9, R125) -/

/-- An (item, value) pair of SET_CONFIG. -/
structure Item where
  code : Byte
  value : Half
  deriving DecidableEq, Repr

/-- The pairs of a SET_CONFIG body. -/
def itemsOf : List Byte → List Item
  | code :: hi :: lo :: rest => { code, value := half2 hi lo } :: itemsOf rest
  | _ => []

/-- A two-valued item: 0 or 1. -/
def twoValued (v : Half) : Option Bool := if v = 0 then some false else if v = 1 then some true else none

/-- One item into an input's configuration, clamped; none for an unknown item or an undefined value (R9, R170). -/
def setInputItem (x : Input) (i : Item) : Option Input :=
  let n := i.value.toNat
  match i.code.toNat with
  | 1 => (twoValued i.value).map (fun b => { x with gainMode := if b then .manual else .auto })
  | 2 => some { x with gain := clampNat 0 63 n }
  | 3 => some { x with low := clampNat 0 255 n }
  | 4 => some { x with high := clampNat 0 255 n }
  | 5 => some { x with clipLimit := clampNat 0 255 n }
  | 6 => some { x with impulseThreshold := clampNat 0 255 n }
  | 7 => (twoValued i.value).map (fun b => { x with mastItem := b })
  | _ => none

/-- One item into a path's configuration, clamped; none for an unknown item or an undefined value (R42, R170). -/
def setPathItem (c : PathConfig) (i : Item) : Option PathConfig :=
  let n := i.value.toNat
  match i.code.toNat with
  | 1 => (twoValued i.value).map (fun b => { c with persist := b })
  | 2 => some { c with holdoverTime := clampNat 50 5000 n }
  | 3 => some { c with windowExp := clampNat 2 10 n }
  | 4 => some { c with lossThreshold := clampNat 0 400 n }
  | 5 => some { c with recoveryHyst := clampNat 0 100 n }
  | 6 => some { c with echoFloor := clampNat 24 160 n }
  | 7 => some { c with fadeLimit := clampNat 1 15 n }
  | 8 => some { c with moveThreshold := clampNat 0 255 n }
  | 9 => some { c with slewLimit := clampNat 1 1024 n }
  | 10 => some { c with bias := clampNat 0 8 n }
  | 11 => if n < 4 then some { c with inhibitAcquiring := i.value.getLsbD 0, inhibitHoldover := i.value.getLsbD 1 } else none
  | _ => none

/-- One item into an output's policy; none for an unknown item or an undefined value (R125, R130). -/
def setOutputItem (_policy : Policy) (i : Item) : Option Policy :=
  if i.code.toNat = 1 then
    match i.value.toNat with
    | 0 => some .mark
    | 1 => some .null
    | 2 => some .drop
    | _ => none
  else none

/-- The code of a policy. -/
def Policy.code : Policy → Nat
  | .mark => 0
  | .null => 1
  | .drop => 2

/-- All the items of a request in order, a later one over an earlier (R170); none when one is refused. -/
def applyItems {α : Type} (set : α → Item → Option α) (x : α) : List Item → Option α
  | [] => some x
  | i :: rest => match set x i with
    | some y => applyItems set y rest
    | none => none

/-- A flag as a number. -/
def boolCode (b : Bool) : Nat := if b then 1 else 0

/-- The value that stands for an input's item (R18). -/
def inputItem (x : Input) (code : Byte) : Nat :=
  match code.toNat with
  | 1 => match x.gainMode with
    | .auto => 0
    | .manual => 1
  | 2 => x.gain
  | 3 => x.low
  | 4 => x.high
  | 5 => x.clipLimit
  | 6 => x.impulseThreshold
  | 7 => boolCode x.mastItem
  | _ => 0

/-- The value that stands for a path's item (R42). -/
def pathItem (c : PathConfig) (code : Byte) : Nat :=
  match code.toNat with
  | 1 => boolCode c.persist
  | 2 => c.holdoverTime
  | 3 => c.windowExp
  | 4 => c.lossThreshold
  | 5 => c.recoveryHyst
  | 6 => c.echoFloor
  | 7 => c.fadeLimit
  | 8 => c.moveThreshold
  | 9 => c.slewLimit
  | 10 => c.bias
  | 11 => boolCode c.inhibitAcquiring + 2 * boolCode c.inhibitHoldover
  | _ => 0

/-- The pairs of a reply: each item code with the value that stands (R170). -/
def itemPairs (value : Byte → Nat) (codes : List Byte) : List Byte := codes.flatMap (fun c => c :: u16 (value c))

end Sys2Proof.Machine
end

