-- ==== Sys2Proof/Machine/Replies.lean ====
section
/-! DEFINITION. Reply bodies: status fields (R164), configurations, tables (R173), counters (R157, R158). Log 17 lists the encodings read
from R164. -/

namespace Sys2Proof.Machine

open Sys2Proof

/-! ### Codes, each in the order in which its values are listed (R164) -/

/-- An input's code. -/
def inputCode : InputId → Nat
  | .a => 0
  | .b => 1

/-- A band's code. -/
def bandCode : Band → Nat
  | .iii => 0
  | .uhf => 1

/-- A port's code (R164). -/
def portCode : Port → Nat
  | .cp => 0
  | .sp => 1

/-- An input state's code (1.1). -/
def InputState.code : InputState → Nat
  | .off => 0
  | .calibrating => 1
  | .running => 2

/-- A gain mode's code. -/
def GainMode.code : GainMode → Nat
  | .auto => 0
  | .manual => 1

/-- A mast state's code (R15). -/
def MastState.code : MastState → Nat
  | .off => 0
  | .on => 1
  | .tripped => 2
  | .lockout => 3

/-- A path state's code (R20). -/
def PathState.code : PathState → Nat
  | .off => 0
  | .idle => 1
  | .search => 2
  | .symbol => 3
  | .frame => 4
  | .pageWait => 5
  | .fill => 6
  | .locked => 7
  | .holdover => 8
  | .scan => 9
  | .fault => 10
  | .halt => 11

/-- A tune result's code (R164). -/
def TuneResult.code : TuneResult → Nat
  | .pending => 0
  | .locked => 1
  | .noSignal => 2
  | .unsupported => 3
  | .superseded => 4
  | .stopped => 5

/-- A fault cause's code (R145). -/
def FaultCause.code : FaultCause → Nat
  | .unsupportedSignal => 0
  | .anchorRunaway => 1
  | .storeStall => 2

/-- A scan phase's code (7.2). -/
def ScanPhase.code : ScanPhase → Nat
  | .search => 0
  | .symbol => 1
  | .frame => 2

/-- An output state's code (R119). -/
def OutputState.code : OutputState → Nat
  | .off => 0
  | .silent => 1
  | .running => 2

/-- A reference state's code (9.6). -/
def RefState.code : RefState → Nat
  | .internal => 0
  | .switching => 1
  | .external => 2
  | .fallback => 3

/-- An echo status's code (R173). -/
def EchoStatus.code : EchoStatus → Nat
  | .tentative => 0
  | .confirmed => 1

/-! ### Composite fields (R164) -/

/-- A tag and port pair: the tag, or 0 for none, and the port (R164). R164 gives none its tag alone; that its port is sent as 0 is the
model's choice (log 33). -/
def tagPair : Option TagPort → List Byte
  | none => [0, 0]
  | some t => t.tag :: u8 (portCode t.port)

/-- A tune record's fields (R22). -/
def tuneFields (t : TuneRecord) : List Byte :=
  u8 (inputCode t.input) ++ u8 (bandCode t.band) ++ u8 t.channel ++ i16 t.offset ++ flagByte t.persist ++ tagPair (some t.sender) ++
    u8 t.attempts ++ u8 t.result.code

/-- A signalling record's fields with the mark (R23). -/
def recordFields (h : HeldRecord) : List Byte :=
  [h.record.symbolMode, h.record.guardFraction, h.record.constellation, h.record.codeRate] ++ word h.record.depth ++
    word h.record.streamRate ++ half h.record.cellIdentity ++ [h.record.changeCount] ++ flagByte h.unsupported

/-- A scan record's fields (R134). -/
def scanFields (r : ScanRecord) : List Byte :=
  u8 (inputCode r.input) ++ u8 (bandCode r.band) ++ u8 r.first ++ u8 r.last ++ tagPair (some r.sender) ++ u8 r.current ++
    u8 r.phase.code ++ u8 r.done ++ u8 r.finds ++ flagByte r.truncated ++ flagByte r.stopped

/-- The last quality: a kind byte, and the MER or 0 (R164). -/
def qualityField : Quality → List Byte
  | .none => u8 0 ++ u16 0
  | .invalid => u8 1 ++ u16 0
  | .mer n => u8 2 ++ u16 n

/-- The arbiter service: a kind byte, and the path or 0 (R164). -/
def serviceField : Service → List Byte
  | .idle => u8 0 ++ u8 0
  | .burst p _ _ => u8 1 ++ u8 (pathNumber p)
  | .refresh => u8 2 ++ u8 0

/-- The unit-enable set as replies carry it, bits 1 and 12 set (9.6). -/
def sentEnables (e : Half) : Half := e ||| 0x1002

/-- An entry of the wait queue: path and need. -/
def waitFields (w : Waiting) : List Byte := u8 (pathNumber w.path) ++ u8 w.need

/-- A counter's name: unit number and counter number (R159). -/
def counterName (c : CounterId) : List Byte := u8 c.unit.number ++ u8 c.number

/-! ### GET_STATUS -/

/-- The device unit's status (R186); the wrap summary is empty to a service port without COUNTERS_VIEW (R159). -/
def State.deviceStatus (s : State) (port : Port) : List Byte :=
  let hidden := port == .sp && !(Access.granted countersViewBit).heldBy s.device.grants
  half (sentEnables s.device.unitEnable) ++ [s.device.grants] ++ u8 s.device.reference.code ++ flagByte s.device.extPresent ++
    u8 s.link.cpSpeed.code ++ word s.device.uptime ++ u8 s.device.scanList.length ++ half s.device.scanNumber ++
    u8 s.link.notices.length ++ flagByte s.link.overrun ++ listField counterName (if hidden then [] else s.wrapSummary) ++
    tagPair (s.lastTags.get .device)

/-- An input's status (R18). -/
def State.inputStatus (s : State) (i : InputId) : List Byte :=
  let x := s.input i
  u8 x.state.code ++ u8 x.gainMode.code ++ u8 x.gain ++ u8 x.occupancy ++ u16 x.clipCount ++ flagByte x.weak ++ flagByte x.overload ++
    listField (fun p => u8 (pathNumber p)) (s.attached i) ++ u8 x.mast.code ++ u8 x.retries ++ tagPair (s.lastTags.get (.input i))

/-- The page holding of a path's status: the pages held, in PAGE_WAIT the need waited for (R44). -/
def State.pageHolding (s : State) (p : PathId) : Nat :=
  if (s.path p).state = .pageWait then s.waitedNeed p else (s.path p).pages.length

/-- A path's status (R44), the scan record after it (R134). -/
def State.pathStatus (s : State) (p : PathId) : List Byte :=
  let x := s.path p
  u8 x.state.code ++ optionalField 10 tuneFields x.tune ++ optionalField 16 recordFields x.sig ++ u8 (s.pageHolding p) ++
    optionalField 2 i16 x.tracker.anchor ++ flagByte x.tracker.spill ++ qualityField x.quality ++ optionalField 4 word x.latched ++
    flagByte x.fault.hold ++ optionalField 1 (fun c => u8 c.code) x.fault.primary ++
    optionalField 1 (fun c => u8 c.code) x.fault.secondary ++ tagPair (s.lastTags.get (.path p)) ++ optionalField 12 scanFields x.scan

/-- An output's status (R131). -/
def State.outputStatus (s : State) (o : OutputId) : List Byte :=
  let x := s.output o
  u8 x.state.code ++ optionalField 1 (fun p => u8 (pathNumber p)) x.bound ++ u8 x.policy.code ++ u8 x.queue.length ++
    optionalField 4 word x.rate ++ tagPair (s.lastTags.get (.output o))

/-- The store's status (R116). -/
def State.storeStatus (s : State) : List Byte :=
  u16 s.store.fitment ++ u16 s.store.free.length ++ allPaths.flatMap (fun p => u8 (s.path p).pages.length) ++
    listField waitFields s.store.wait ++ half s.store.alloc ++ serviceField s.store.service ++ u8 (pathNumber s.store.lastGranted) ++
    u8 s.store.refreshPending ++ allPaths.flatMap (fun p => u8 (s.path p).staging.length) ++
    allPaths.flatMap (fun p => u8 (s.path p).discardRun) ++ tagPair (s.lastTags.get .store)

/-- The status of the addressed unit. -/
def State.status (s : State) (u : UnitId) (port : Port) : List Byte :=
  match u with
  | .device => s.deviceStatus port
  | .input i => s.inputStatus i
  | .path p => s.pathStatus p
  | .output o => s.outputStatus o
  | .store => s.storeStatus

/-! ### GET_CONFIG -/

/-- Every item of the unit as a pair, in item-code order (9.6). -/
def State.configuration (s : State) (u : UnitId) : List Byte :=
  match u with
  | .device => []
  | .input i => itemPairs (inputItem (s.input i)) [1, 2, 3, 4, 5, 6, 7]
  | .path p => itemPairs (pathItem (s.path p).config) [1, 2, 3, 4, 5, 6, 7, 8, 9, 10, 11]
  | .output o => itemPairs (fun _ => (s.output o).policy.code) [1]
  | .store => []

/-! ### READ_TABLE (R173) -/

/-- A header, then the entries from the start index, as many as fit in a body of 247 bytes (R173). -/
def tableBody {α : Type} (header : List Byte) (width : Nat) (enc : α → List Byte) (entries : List α) (start : Nat) : List Byte :=
  header ++ ((entries.drop start).take ((Config.bodyCap - header.length) / width)).flatMap enc

/-- An echo entry's bytes. -/
def echoFields (e : EchoEntry) : List Byte := i16 e.delay ++ u8 e.attenuation ++ u8 e.status.code ++ u8 e.hits ++ u8 e.age

/-- The flags of the echo table's header. -/
def echoFlags (t : Tracker) : Nat := boolCode t.anchor.isSome + 2 * boolCode t.spill + 4 * boolCode t.origin.isSome

/-- An absent anchor's bytes are 0 (log 26). -/
def anchorBytes : Option Int → List Byte
  | some a => i16 a
  | none => u16 0

/-- The echo table's header (R72, R173). -/
def echoHeader (t : Tracker) : List Byte :=
  u8 t.table.length ++ half t.estimate ++ u8 (echoFlags t) ++ anchorBytes t.anchor ++ u8 t.clampedRun ++ u16 t.guardLength

/-- A scan result entry's bytes. -/
def scanEntryFields (e : ScanEntry) : List Byte :=
  u8 (inputCode e.input) ++ u8 (bandCode e.band) ++ u8 e.channel ++ half e.cellIdentity ++
    [e.symbolMode, e.guardFraction, e.constellation, e.codeRate] ++ word e.streamRate ++ u8 e.gain ++ flagByte e.unsupported

/-- The table of an id at the addressed unit from a start index; none for a table the unit does not hold (R173). -/
def State.table (s : State) (u : UnitId) (id start : Byte) : Option (List Byte) :=
  match u with
  | .device =>
    if id = 5 then
      some (tableBody (u8 s.device.scanList.length ++ half s.device.scanNumber) 15 scanEntryFields s.device.scanList start.toNat)
    else none
  | .path p =>
    if id = 1 then some (tableBody (echoHeader (s.path p).tracker) 6 echoFields (s.path p).tracker.table start.toNat)
    else if id = 2 then
      some (tableBody (u8 (s.path p).pages.length ++ u8 (s.waitedNeed p) ++ half s.store.alloc) 1 u8 (s.path p).pages start.toNat)
    else none
  | .store =>
    if id = 3 then some (tableBody (u16 s.store.free.length ++ half s.store.alloc) 1 u8 s.store.free start.toNat)
    else if id = 4 then some (tableBody (u16 s.store.wait.length ++ half s.store.alloc) 2 waitFields s.store.wait start.toNat)
    else none
  | .input _ => none
  | .output _ => none

/-! ### Counters -/

/-- A selected counter's bytes: number, value, overflow flag (9.6). -/
def State.counterFields (s : State) (c : CounterId) : List Byte :=
  u8 c.number ++ word (s.counter c).value ++ flagByte (s.counter c).overflow

/-- Clears a counter and its flag (R158). -/
def State.clearCounter (s : State) (c : CounterId) : State := s.setCounter c .zero

/-- The body of a BIND reply: binding, state, latched rate, 0 for none (9.6). -/
def bindingFields (x : Output) : List Byte :=
  u8 (match x.bound with
    | some p => pathNumber p
    | none => 255) ++ u8 x.state.code ++ word (x.rate.getD 0)

end Sys2Proof.Machine
end

