-- ==== Sys2Proof/Machine/Scanning.lean ====
section
/-! DEFINITION. A channel scan: the scan result list, the phases of a channel, the end of a channel and of the scan (chapter 7). -/

namespace Sys2Proof.Machine

open Sys2Proof

/-! ### The scan result list (7.3) -/

/-- The key (input, band, channel) as one number that orders as R139 does. -/
def scanKey (i : InputId) (b : Band) (c : Nat) : Nat :=
  (match i with
    | .a => 0
    | .b => 2000) + (match b with
    | .iii => 0
    | .uhf => 1000) + c

/-- An entry's key. -/
def ScanEntry.key (e : ScanEntry) : Nat := scanKey e.input e.band e.channel

/-- An entry replaces the one of its key, or goes to its place in key order (R140). -/
def insertScan (e : ScanEntry) : List ScanEntry → List ScanEntry
  | [] => [e]
  | x :: xs => if e.key = x.key then e :: xs else if e.key < x.key then e :: x :: xs else x :: insertScan e xs

/-- The list takes a find: it holds the key, or has room (R140). -/
def takesFind (list : List ScanEntry) (e : ScanEntry) : Bool :=
  list.any (fun x => x.key == e.key) || list.length < Config.scanCap

/-- The entry of a find (R137, R139). -/
def scanEntryOf (r : ScanRecord) (gain : Nat) (d : SigRecord) : ScanEntry :=
  { input := r.input, band := r.band, channel := r.current, cellIdentity := d.cellIdentity, symbolMode := d.symbolMode,
    guardFraction := d.guardFraction, constellation := d.constellation, codeRate := d.codeRate, streamRate := d.streamRate, gain,
    unsupported := !supportedRecord d }

/-- A find reaches the device unit: replaced, inserted, or discarded (R140). -/
def Device.find (d : Device) (e : ScanEntry) : Device :=
  if takesFind d.scanList e then { d with scanList := insertScan e d.scanList, scanNumber := d.scanNumber + 1 } else d

/-- An empty channel reaches the device unit (R141). -/
def Device.removeChannel (d : Device) (key : Nat) : Device :=
  if d.scanList.any (fun x => x.key == key) then
    { d with scanList := d.scanList.filter (fun x => x.key != key), scanNumber := d.scanNumber + 1 }
  else d

/-! ### The channels of a scan (7.2, 7.4) -/

/-- The path enters the search phase of a channel (R136). -/
def Path.searchChannel (x : Path) (r : ScanRecord) : Path :=
  { x with scan := some { r with phase := .search }, searchTimer := some Config.searchMs, symbolTimer := none, frameTimer := none,
           tracker := .cleared, symbol := .clear, symbolAnchor := none }

/-- The path enters the symbol phase; its first symbol starts with the anchor that seeding placed (R66, R135). -/
def Path.symbolPhase (x : Path) (r : ScanRecord) : Path :=
  { x with scan := some { r with phase := .symbol }, searchTimer := none, symbolTimer := some Config.symbolMs,
           symbolAnchor := x.tracker.anchor }

/-- The path enters the frame phase (R135). -/
def Path.framePhase (x : Path) (r : ScanRecord) : Path :=
  { x with scan := some { r with phase := .frame }, symbolTimer := none, frameTimer := some Config.frameMs }

/-- The scan ends by completion (R143). -/
def State.completeScan (s : State) (p : PathId) (r : ScanRecord) : State :=
  ((s.raise (.path p) (.scanDone { r with stopped := false })).modPath p (fun x => { x with scan := none })).movePath p .idle .scanEnd

/-- A channel ends: channels done steps, and the scan goes on to the next channel or is complete (R136). -/
def State.endChannel (s : State) (p : PathId) (r : ScanRecord) : State :=
  if r.last ≤ r.current then s.completeScan p { r with done := r.done + 1 }
  else s.modPath p (fun x => x.searchChannel { r with done := r.done + 1, current := r.current + 1 })

/-- A channel ends empty (R137, R141). -/
def State.channelEmpty (s : State) (p : PathId) (r : ScanRecord) : State :=
  (s.modDevice (fun d => d.removeChannel (scanKey r.input r.band r.current))).endChannel p r

/-- A channel ends with a find (R137, R140). -/
def State.channelFind (s : State) (p : PathId) (r : ScanRecord) (d : SigRecord) : State :=
  let e := scanEntryOf r (s.input r.input).gain d
  let r := if takesFind s.device.scanList e then { r with finds := r.finds + 1 } else { r with truncated := true }
  (s.modDevice (fun d => d.find e)).endChannel p r

/-- The path's scan, if the path is in SCAN and the scan in this phase. -/
def Path.scanIn (x : Path) (phase : ScanPhase) : Option ScanRecord :=
  if x.state = .scan then x.scan.filter (fun r => r.phase == phase) else none

end Sys2Proof.Machine
end

