-- ==== Sys2Proof/Machine/UnitPower.lean ====
section
/-! DEFINITION. Enabling, disabling and resetting the inputs, paths and outputs (R1, R3, R19, R24, R25, R39, R45, R120, R132, R182). -/

namespace Sys2Proof.Machine

open Sys2Proof

/-! ### Inputs -/

/-- A path whose input is disabled or reset ends its tune or scan, gives up what it has at the store, and enters IDLE (R39). -/
def State.loseInput (s : State) (reason : Reason) (p : PathId) : State :=
  ((((s.endTune p .stopped).stopScan p).giveUpStore p)).movePath p .idle reason

/-- Every attached path is sent to IDLE (R3 step 1, R19 step 1). The rules give the order inside a path only; that the paths go in ascending
number is the model's choice (log 9). -/
def State.releaseMembers (s : State) (i : InputId) (reason : Reason) : State :=
  (s.attached i).foldl (fun s p => s.loseInput reason p) s

/-- The mast supply goes OFF, its timers stop and its retry count becomes 0 (R3 step 2, R19 step 2). -/
def State.mastOff (s : State) (i : InputId) : State :=
  let s := s.modInput i (fun x => { x with mastItem := false })
  if (s.input i).mast = .off then s else s.moveMast i .off 0 none none

/-- What is left of an input on disable (R3 steps 4 and 5). -/
def Input.turnedOff (x : Input) : Input :=
  { x with state := .off, calibrationTimer := none, occupancy := 0, clipCount := 0, impulse := false }

/-- SET_UNITS disables an input (R3). -/
def State.disableInput (s : State) (i : InputId) : State :=
  if (s.input i).state = .off then s
  else ((((s.releaseMembers i .inputOff).mastOff i).setLevel i false false)).modInput i Input.turnedOff

/-- SET_UNITS enables an input (R1). -/
def State.enableInput (s : State) (i : InputId) : State :=
  if (s.input i).state = .off then
    s.modInput i (fun x => { x with state := .calibrating, calibrationTimer := some Config.calibrationMs })
  else s

/-- An input after RESET_UNIT: every item and counter at its initial value, CALIBRATING from the beginning (R19 steps 4 and 5). -/
def Input.restarted : Input := { Input.initial with state := .calibrating, calibrationTimer := some Config.calibrationMs }

/-- RESET_UNIT of an input (R19). -/
def State.resetInput (s : State) (i : InputId) : State :=
  (((((s.releaseMembers i .inputReset).mastOff i).setEnables (.input i) allEnabled).setLevel i false false)).modInput i
    (fun _ => Input.restarted)

/-! ### Paths -/

/-- SET_UNITS disables a path (R25). -/
def State.disablePath (s : State) (p : PathId) : State :=
  if (s.path p).state = .off then s
  else ((((s.endTune p .stopped).stopScan p).giveUpStore p)).movePath p .off .disabled

/-- SET_UNITS enables a path: IDLE, or HALT with a secondary cause (R24). -/
def State.enablePath (s : State) (p : PathId) : State :=
  if (s.path p).state = .off then
    s.movePath p (if (s.path p).fault.secondary.isSome then .halt else .idle) .enabled
  else s

/-- What RESET_UNIT clears of a path (R45 steps 3 and 4). -/
def Path.wiped (x : Path) : Path :=
  { x with fault := .clear, config := .initial, counters := .zero, tracker := .cleared, tune := none, sig := none, latched := none,
           quality := .none }

/-- RESET_UNIT of a path (R45). -/
def State.resetPath (s : State) (p : PathId) : State :=
  ((((((s.endTune p .stopped).stopScan p).giveUpStore p).setEnables (.path p) allEnabled)).modPath p Path.wiped).movePath p .idle
    .unitReset

/-! ### Outputs -/

/-- An output takes a latched rate, or none, with an empty queue: RUNNING or SILENT (R120, R121). -/
def Output.begin (x : Output) (rate : Option Word) : Output :=
  { x with state := if rate.isSome then .running else .silent, queue := [], rate }

/-- The latched stream rate of the path an output is bound to (R120, R121). -/
def State.boundRate (s : State) (bound : Option PathId) : Option Word :=
  match bound with
  | some p => (s.path p).latched
  | none => none

/-- SET_UNITS disables an output: the line stops at once (R120). -/
def State.disableOutput (s : State) (o : OutputId) : State :=
  if (s.output o).state = .off then s
  else s.modOutput o (fun x => { x with state := .off, queue := [], rate := none, line := none })

/-- An output takes a latched rate, or none, and begins its first slot if it then runs (R120, R121). -/
def State.beginOutput (s : State) (o : OutputId) (rate : Option Word) : State :=
  let s := s.modOutput o (fun x => x.begin rate)
  if rate.isSome then s.beginFirstSlot o else s

/-- SET_UNITS enables an output (R120). -/
def State.enableOutput (s : State) (o : OutputId) : State :=
  if (s.output o).state = .off then s.beginOutput o (s.boundRate (s.output o).bound) else s

/-- RESET_UNIT of an output: the packet in progress finishes (R132). -/
def State.resetOutput (s : State) (o : OutputId) : State :=
  (s.modOutput o (fun x => { Output.initial with state := .silent, line := x.line })).setEnables (.output o) allEnabled

/-! ### SET_UNITS -/

/-- The bits of the unit-enable set that stand for units (R182). -/
abbrev unitBits : Half := 0x0FFC

/-- The new set names the unit as enabled. -/
def namesUnit (set : Half) (u : UnitId) : Bool := set.getLsbD u.number

/-- The disables of a SET_UNITS: outputs, paths, inputs, each ascending (R182 step 1). -/
def State.powerDown (s : State) (set : Half) : State :=
  let s := (allOutputs.filter (fun o => !namesUnit set (.output o))).foldl State.disableOutput s
  let s := (allPaths.filter (fun p => !namesUnit set (.path p))).foldl State.disablePath s
  (allInputs.filter (fun i => !namesUnit set (.input i))).foldl State.disableInput s

/-- The enables of a SET_UNITS: inputs, paths, outputs, each ascending (R182 step 2). -/
def State.powerUp (s : State) (set : Half) : State :=
  let s := (allInputs.filter (fun i => namesUnit set (.input i))).foldl State.enableInput s
  let s := (allPaths.filter (fun p => namesUnit set (.path p))).foldl State.enablePath s
  (allOutputs.filter (fun o => namesUnit set (.output o))).foldl State.enableOutput s

/-- A taken SET_UNITS (R182). -/
def State.setUnits (s : State) (set : Half) : State :=
  let set := set &&& unitBits
  ((s.modDevice (fun d => { d with unitEnable := set })).powerDown set).powerUp set

end Sys2Proof.Machine
end

