-- ==== Sys2Proof/Machine/Answers.lean ====
section
/-! DEFINITION. What each verb does once dispatch has handed its request to a unit: a status, a reply body and the state after
(chapters 1, 2, 6 to 11). A request that dispatch never hands over (a verb or body the unit does not take) is refused as dispatch would. -/

namespace Sys2Proof.Machine

open Sys2Proof

/-- The outcome of a request at its unit. `thenReset`: the reset of the part follows its reply (R185). -/
structure Answer where
  status : Status
  body : List Byte
  state : State
  thenReset : Bool

/-- Refused: the state as it was, an empty body (R163, R167). -/
def refused (st : Status) (s : State) : Answer := { status := st, body := [], state := s, thenReset := false }

/-- Taken and done. -/
def done (body : List Byte) (s : State) : Answer := { status := .ok, body, state := s, thenReset := false }

/-- Taken, a long operation started. -/
def accepted (body : List Byte) (s : State) : Answer := { status := .accepted, body, state := s, thenReset := false }

/-! ### GET_STATUS, GET_CONFIG, READ_TABLE -/

/-- GET_STATUS (R186, R18, R44, R131, R116). -/
def answerGetStatus (t : Taken) (s : State) : Answer := done (s.status t.unit t.port) s

/-- GET_CONFIG (9.6). -/
def answerGetConfig (t : Taken) (s : State) : Answer := done (s.configuration t.unit) s

/-- READ_TABLE (R173). -/
def answerReadTable (t : Taken) (s : State) : Answer :=
  match t.body with
  | [id, start] => match s.table t.unit id start with
    | some body => done body s
    | none => refused .badValue s
  | _ => refused .badLength s

/-! ### SET_CONFIG -/

/-- The request names an item. -/
def namesItem (items : List Item) (code : Nat) : Bool := items.any (fun i => i.code.toNat == code)

/-- The whole draft of an input's configuration, or none when the request is refused BAD_VALUE (R8, R9, R18). -/
def draftInput (x : Input) (items : List Item) : Option Input :=
  match applyItems setInputItem x items with
  | none => none
  | some y => if (namesItem items 2 ∧ y.gainMode ≠ .manual) ∨ y.high ≤ y.low then none else some y

/-- The items of a draft but GAIN and MAST are stored; a threshold of 0 ends an impulse event in progress (R9, R13). -/
def Input.store (x y : Input) : Input :=
  { x with gainMode := y.gainMode, low := y.low, high := y.high, clipLimit := y.clipLimit, impulseThreshold := y.impulseThreshold,
           impulse := x.impulse && y.impulseThreshold != 0 }

/-- The effects of a taken input SET_CONFIG: one gain change, the MAST item (R18). -/
def State.configureInput (s : State) (i : InputId) (y : Input) (items : List Item) : State :=
  let s := (s.modInput i (fun x => x.store y)).setGain i y.gain
  if namesItem items 7 then s.setMast i y.mastItem else s

/-- SET_CONFIG of an input (R2, R18). -/
def setConfigInput (i : InputId) (items : List Item) (s : State) : Answer :=
  match (s.input i).state with
  | .off => refused .unitOff s
  | .calibrating => refused .busy s
  | .running => match draftInput (s.input i) items with
    | none => refused .badValue s
    | some y =>
      let s := s.configureInput i y items
      done (itemPairs (inputItem (s.input i)) (items.map Item.code)) s

/-- The configuration of a path is stored; a PERSIST item is also written into the tune record (R42). -/
def Path.configure (x : Path) (c : PathConfig) (items : List Item) : Path :=
  { x with config := c
           tune := if namesItem items 1 then x.tune.map (fun t => { t with persist := c.persist }) else x.tune }

/-- SET_CONFIG of a path (R42, R43). -/
def setConfigPath (p : PathId) (items : List Item) (s : State) : Answer :=
  if (s.path p).state = .scan then refused .busy s
  else if (s.path p).state = .halt then refused .wrongState s
  else match applyItems setPathItem (s.path p).config items with
    | none => refused .badValue s
    | some c => done (itemPairs (pathItem c) (items.map Item.code)) (s.modPath p (fun x => x.configure c items))

/-- SET_CONFIG of an output (R130). -/
def setConfigOutput (o : OutputId) (items : List Item) (s : State) : Answer :=
  match applyItems setOutputItem (s.output o).policy items with
  | none => refused .badValue s
  | some policy => done (itemPairs (fun _ => policy.code) (items.map Item.code)) (s.modOutput o (fun x => { x with policy }))

/-- SET_CONFIG (R170). -/
def answerSetConfig (t : Taken) (s : State) : Answer :=
  match t.unit with
  | .input i => setConfigInput i (itemsOf t.body) s
  | .path p => setConfigPath p (itemsOf t.body) s
  | .output o => setConfigOutput o (itemsOf t.body) s
  | .device => refused .unknownVerb s
  | .store => refused .unknownVerb s

/-! ### TUNE, STOP, SCAN -/

/-- The refusal of a TUNE by the path's state (R26 check 2). -/
def tuneRefusal : PathState → Option Status
  | .scan => some .busy
  | .halt => some .wrongState
  | .off => some .unitOff
  | .idle => none
  | .search => none
  | .symbol => none
  | .frame => none
  | .pageWait => none
  | .fill => none
  | .locked => none
  | .holdover => none
  | .fault => none

/-- The tune record of a taken TUNE (R22, R27 step 3). -/
def newTune (x : Path) (input : InputId) (band : Band) (channel : Nat) (offset : Int) (sender : TagPort) : TuneRecord :=
  { input, band, channel, offset, persist := x.config.persist, sender, attempts := 0, result := .pending }

/-- A TUNE is taken (R27). -/
def State.startTune (s : State) (p : PathId) (input : InputId) (band : Band) (channel : Nat) (offset : Int) (sender : TagPort) : State :=
  let s := (s.endTune p .superseded).giveUpStore p
  let s := s.modPath p (fun x => { x with tune := some (newTune x input band channel offset sender), quality := .none })
  s.movePath p .search .tune

/-- The offset of a TUNE, clamped (R26 check 1). -/
def tuneOffset (hi lo : Byte) : Int := clampInt (-500) 500 (half2 hi lo).toInt

/-- Checks 2 to 4 of a TUNE whose body values stand, and its taking (R26, R27). -/
def tuneChecked (p : PathId) (input : InputId) (band : Band) (channel : Nat) (offset : Int) (t : Taken) (s : State) : Answer :=
  match tuneRefusal (s.path p).state with
  | some st => refused st s
  | none =>
    if (s.input input).state = .off then refused .unitOff s
    else if t.conditionHolds (s.path p) = false then refused .conditionFalse s
    else accepted (i16 offset) (s.startTune p input band channel offset t.sender)

/-- TUNE (R26). -/
def answerTune (t : Taken) (s : State) : Answer :=
  match t.unit, t.body with
  | .path p, [i, b, c, hi, lo] =>
    match inputOf i, bandOf b with
    | some input, some band =>
      if channelInBand band c.toNat then tuneChecked p input band c.toNat (tuneOffset hi lo) t s else refused .badValue s
    | _, _ => refused .badValue s
  | _, _ => refused .badLength s

/-- A STOP in an acquisition state, LOCKED or HOLDOVER, or in SCAN (R29). -/
def State.stopPath (s : State) (p : PathId) : State :=
  ((((s.endTune p .stopped).stopScan p).giveUpStore p)).movePath p .idle .stop

/-- STOP by the path's state (R29). -/
def stopByState (p : PathId) (s : State) : Answer :=
  match (s.path p).state with
  | .off => refused .unitOff s
  | .idle => done [] s
  | .search => done [] (s.stopPath p)
  | .symbol => done [] (s.stopPath p)
  | .frame => done [] (s.stopPath p)
  | .pageWait => done [] (s.stopPath p)
  | .fill => done [] (s.stopPath p)
  | .locked => done [] (s.stopPath p)
  | .holdover => done [] (s.stopPath p)
  | .scan => done [] (s.stopPath p)
  | .fault => refused .wrongState s
  | .halt => refused .wrongState s

/-- STOP: the condition, then the state (R29, R171). -/
def answerStop (t : Taken) (s : State) : Answer :=
  match t.unit with
  | .path p => if t.conditionHolds (s.path p) then stopByState p s else refused .conditionFalse s
  | .device => refused .unknownVerb s
  | .input _ => refused .unknownVerb s
  | .output _ => refused .unknownVerb s
  | .store => refused .unknownVerb s

/-- The last channel of a SCAN: the repeat count clamped to 27, then to the band (R133 check 1). -/
def scanLast (band : Band) (first repeats : Nat) : Nat := min (lastChannel band) (first + min 27 repeats)

/-- A SCAN is taken: the record, SCAN, the search phase of the first channel (R134). -/
def State.startScan (s : State) (p : PathId) (input : InputId) (band : Band) (first last : Nat) (sender : TagPort) : State :=
  let r : ScanRecord :=
    { input, band, first, last, sender, current := first, phase := .search, done := 0, finds := 0, truncated := false, stopped := false }
  ((s.modPath p (fun x => { x with scan := some r })).movePath p .scan .scan).modPath p (fun x => x.searchChannel r)

/-- The refusal of a SCAN by the path's state (R133 check 2). -/
def scanRefusal : PathState → Option Status
  | .idle => none
  | .scan => some .busy
  | .off => some .unitOff
  | .search => some .wrongState
  | .symbol => some .wrongState
  | .frame => some .wrongState
  | .pageWait => some .wrongState
  | .fill => some .wrongState
  | .locked => some .wrongState
  | .holdover => some .wrongState
  | .fault => some .wrongState
  | .halt => some .wrongState

/-- Checks 2 to 4 of a SCAN whose body values stand, and its taking (R133, R134). -/
def scanChecked (p : PathId) (input : InputId) (band : Band) (first last : Nat) (t : Taken) (s : State) : Answer :=
  match scanRefusal (s.path p).state with
  | some st => refused st s
  | none =>
    if (s.input input).state = .off then refused .unitOff s
    else if t.conditionHolds (s.path p) = false then refused .conditionFalse s
    else accepted (u8 (last - first) ++ u8 last) (s.startScan p input band first last t.sender)

/-- SCAN (R133). -/
def answerScan (t : Taken) (s : State) : Answer :=
  match t.unit, t.body with
  | .path p, [i, b, c, n] =>
    match inputOf i, bandOf b with
    | some input, some band =>
      if channelInBand band c.toNat then scanChecked p input band c.toNat (scanLast band c.toNat n.toNat) t s else refused .badValue s
    | _, _ => refused .badValue s
  | _, _ => refused .badLength s

/-! ### ACK_FAULT -/

/-- The hold and the primary cause are cleared, the three classes take their saved values (R152). -/
def State.clearHold (s : State) (p : PathId) : State :=
  let s' := s.modPath p (fun x => { x with fault := { x.fault with hold := false, primary := none, saved := none } })
  match (s.path p).fault.saved with
  | none => s'
  | some v => s'.setEnables (.path p) (restoreThree (s.link.enables.get (.path p)) v)

/-- ACK_FAULT by the path's state and hold (R152). -/
def ackByState (p : PathId) (s : State) : Answer :=
  if (s.path p).state = .halt then refused .wrongState s
  else if (s.path p).state = .fault then done [] ((s.clearHold p).movePath p .idle .ack)
  else if (s.path p).fault.hold then done [] (s.clearHold p)
  else done [] s

/-- ACK_FAULT (R152). -/
def answerAckFault (t : Taken) (s : State) : Answer :=
  match t.unit with
  | .path p => ackByState p s
  | .device => refused .unknownVerb s
  | .input _ => refused .unknownVerb s
  | .output _ => refused .unknownVerb s
  | .store => refused .unknownVerb s

/-! ### Counters -/

/-- READ_COUNTERS (R157). -/
def answerReadCounters (t : Taken) (s : State) : Answer :=
  match t.body with
  | [mask] => match selection (unitCounters t.unit) mask with
    | some cs => done (cs.flatMap s.counterFields) s
    | none => refused .badValue s
  | _ => refused .badLength s

/-- The reply to a CLEAR_COUNTERS hides the values from a service port without COUNTERS_VIEW (R158). -/
def Taken.hidesValues (t : Taken) (s : State) : Bool :=
  t.port == .sp && !(Access.granted countersViewBit).heldBy s.device.grants

/-- CLEAR_COUNTERS (R158). -/
def answerClearCounters (t : Taken) (s : State) : Answer :=
  match t.body with
  | [mask] => match selection (unitCounters t.unit) mask with
    | some cs =>
      done (if t.hidesValues s then cs.flatMap (fun c => u8 c.number) else cs.flatMap s.counterFields) (cs.foldl State.clearCounter s)
    | none => refused .badValue s
  | _ => refused .badLength s

/-! ### MASK_NOTICES -/

/-- The operation of a MASK_NOTICES (9.6). -/
def maskOperation (b : Byte) : Option (Half → Half → Half) :=
  match b.toNat with
  | 0 => some maskAnd
  | 1 => some maskOr
  | 2 => some maskXor
  | _ => none

/-- MASK_NOTICES (R172). -/
def answerMaskNotices (t : Taken) (s : State) : Answer :=
  match t.body with
  | [op, hi, lo] => match maskOperation op with
    | some f =>
      let old := s.link.enables.get t.unit
      done (half old) (s.setEnables t.unit (f old (half2 hi lo)))
    | none => refused .badValue s
  | _ => refused .badLength s

/-! ### BIND -/

/-- An output's binding changes (R121). Where it enters RUNNING from SILENT with no packet in progress, its first slot begins at once, as on
enable (log 14). -/
def State.rebind (s : State) (o : OutputId) (bound : Option PathId) : State :=
  (s.modOutput o (fun x => { x with bound })).beginOutput o (s.boundRate bound)

/-- BIND (R121). -/
def answerBind (t : Taken) (s : State) : Answer :=
  match t.unit, t.body with
  | .output o, [b] => match bindingOf b with
    | some bound =>
      let s := if (s.output o).bound = bound then s else s.rebind o bound
      done (bindingFields (s.output o)) s
    | none => refused .badValue s
  | _, _ => refused .badLength s

/-! ### The device unit's verbs -/

/-- The bits that must be 0 in a SET_UNITS body (9.6). -/
abbrev forbiddenUnitBits : Half := 0xE001

/-- SET_UNITS (R182). -/
def answerSetUnits (t : Taken) (s : State) : Answer :=
  match t.body with
  | [hi, lo] =>
    if half2 hi lo &&& forbiddenUnitBits ≠ 0 then refused .badValue s
    else done (half (sentEnables s.device.unitEnable)) (s.setUnits (half2 hi lo))
  | _ => refused .badLength s

/-- SET_GRANTS (R181). -/
def answerSetGrants (t : Taken) (s : State) : Answer :=
  match t.body with
  | [g] => done [s.device.grants] (s.modDevice (fun d => { d with grants := g }))
  | _ => refused .badLength s

/-- SET_REFERENCE (R183). -/
def answerSetReference (t : Taken) (s : State) : Answer :=
  match t.body with
  | [b] => match twoValued (b.setWidth 16) with
    | none => refused .badValue s
    | some wantsExternal =>
      if s.device.reference = .switching then refused .busy s
      else
        let s := if wantsExternal then s.wantExternal else s.wantInternal
        done (u8 s.device.reference.code) s
  | _ => refused .badLength s

/-- The CP speed last stored: the newest pending one, or the one in force (R160). -/
def Link.storedSpeed (l : Link) : LinkSpeed :=
  match l.speedPending.getLast? with
  | some q => q.speed
  | none => l.cpSpeed

/-- A speed other than the one in force is stored; it takes effect once the replies now waiting, and this request's own, have left
(R160). -/
def Link.storeSpeed (l : Link) (speed : LinkSpeed) (ownReply : Bool) : Link :=
  if speed = l.cpSpeed then l
  else { l with speedPending := l.speedPending ++ [{ speed, ahead := l.replies.cp.length + boolCode ownReply }] }

/-- SET_LINK (R160). -/
def answerSetLink (t : Taken) (s : State) : Answer :=
  match t.body with
  | [b] => match speedOf b with
    | none => refused .badValue s
    | some speed =>
      let s := s.modLink (fun l => l.storeSpeed speed t.wanted)
      done (u8 s.link.storedSpeed.code) s
  | _ => refused .badLength s

/-- The scan result list is emptied; the number steps if it held entries (R142). -/
def Device.clearScan (d : Device) : Device :=
  if d.scanList.isEmpty then d else { d with scanList := [], scanNumber := d.scanNumber + 1 }

/-- CLEAR_SCAN (R142). -/
def answerClearScan (_t : Taken) (s : State) : Answer := done [] (s.modDevice Device.clearScan)

/-! ### RESET_UNIT, RESET_DEVICE -/

/-- RESET_UNIT (R19, R45, R132). -/
def answerResetUnit (t : Taken) (s : State) : Answer :=
  match t.unit with
  | .input i => done [] (s.resetInput i)
  | .path p => done [] (s.resetPath p)
  | .output o => done [] (s.resetOutput o)
  | .device => refused .unknownVerb s
  | .store => refused .unknownVerb s

/-- RESET_DEVICE: the reset follows the reply, or is due at once when there is none (R185). -/
def answerResetDevice (t : Taken) (s : State) : Answer :=
  if t.wanted then { status := .ok, body := [], state := s, thenReset := true }
  else done [] (s.modLink (fun l => { l with resetDue := true }))

/-- The request at its unit, by verb. -/
def answer (v : Verb) (t : Taken) (s : State) : Answer :=
  match v with
  | .getStatus => answerGetStatus t s
  | .setConfig => answerSetConfig t s
  | .getConfig => answerGetConfig t s
  | .tune => answerTune t s
  | .stop => answerStop t s
  | .scan => answerScan t s
  | .ackFault => answerAckFault t s
  | .readTable => answerReadTable t s
  | .readCounters => answerReadCounters t s
  | .clearCounters => answerClearCounters t s
  | .maskNotices => answerMaskNotices t s
  | .bind => answerBind t s
  | .setUnits => answerSetUnits t s
  | .setGrants => answerSetGrants t s
  | .setReference => answerSetReference t s
  | .setLink => answerSetLink t s
  | .clearScan => answerClearScan t s
  | .resetUnit => answerResetUnit t s
  | .resetDevice => answerResetDevice t s

end Sys2Proof.Machine
end

