-- ==== Sys2Proof/Machine/Requests.lean ====
section
/-! DEFINITION. Taking a request: dispatch, the unit's answer, the last taken tag, the reply (R165 to R169, R174), and the meaning of each
verb's command. -/

namespace Sys2Proof.Machine

open Sys2Proof

/-- A request with this status counts as taken (R174). -/
def Status.isTaken : Status → Bool
  | .ok => true
  | .accepted => true
  | .conditionFalse => true
  | .busy => false
  | .wrongState => false
  | .unitOff => false
  | .notGranted => false
  | .unknownUnit => false
  | .unknownVerb => false
  | .badLength => false
  | .badValue => false

/-- A request with this status is answered only if its reply is wanted (R166). -/
def Status.needsWanting : Status → Bool
  | .ok => true
  | .accepted => true
  | .conditionFalse => false
  | .busy => false
  | .wrongState => false
  | .unitOff => false
  | .notGranted => false
  | .unknownUnit => false
  | .unknownVerb => false
  | .badLength => false
  | .badValue => false

/-- The request gets a reply (R166). -/
def repliesTo (r : Request) (st : Status) : Bool := replyWanted r || !st.needsWanting

/-- The reply of an answered request (R163, R166). -/
def replyOf (r : Request) (a : Answer) : Reply :=
  { unit := r.unit, tag := r.tag, status := a.status, body := a.body, thenReset := a.thenReset }

/-- A reply joins its port's reply queue (R166). -/
def State.sendReply (s : State) (p : Port) (r : Reply) : State := s.modLink (fun l => l.reply p r)

/-- The unit writes its last taken tag when the request counts as taken (R174). -/
def State.recordTag (s : State) (t : Taken) (st : Status) : State :=
  if st.isTaken then { s with lastTags := s.lastTags.set t.unit (some t.sender) } else s

/-- The CP transmitter is taken by a frame. -/
def State.occupyCp (s : State) (f : TxFrame) : State := s.modLink (fun l => l.send .cp f)

/-- A reply and a notice became pending together: the CP transmitter was idle, the reply goes to the CP, and a notice of the request has
begun (R169). -/
def pendingTogether (before after : State) (p : Port) : Bool :=
  p == .cp && before.link.tx.cp.isNone && after.link.tx.cp.isSome

/-- One more free choice is used (log 8). -/
def State.useChoice (s : State) : State := { s with freeCount := s.freeCount + 1 }

/-- A taken request is answered. Where its reply and a notice of its own become pending together at an idle CP transmitter, the free value
`Config.replyFirst` decides which frame begins (R169, log 8): the reply first is the same request taken with the transmitter occupied by
that reply. -/
def State.conclude (s : State) (r : Request) (t : Taken) (f : State → Answer) : State :=
  let a := f s
  let after := a.state.recordTag t a.status
  if repliesTo r a.status then
    if pendingTogether s a.state r.port then
      if Config.replyFirst s.freeCount then ((f (s.occupyCp (.reply (replyOf r a)))).state.recordTag t a.status).useChoice
      else (after.sendReply r.port (replyOf r a)).useChoice
    else after.sendReply r.port (replyOf r a)
  else after

/-- A good frame reaches dispatch: discarded at a full reply queue, refused, or handed to its unit (R165). -/
def State.takeRequest (s : State) (verb : Option Verb) (r : Request) : State :=
  if Config.replyCap ≤ (s.link.replies.get r.port).length then s
  else match s.dispatch verb r with
    | .inl st => s.sendReply r.port (replyOf r (refused st s))
    | .inr t => match verb with
      | some v => s.conclude r t (answer v t)
      | none => s

/-- A receiver returns to HUNT (R161). -/
def State.hunt (s : State) (p : Port) : State := s.modLink (fun l => { l with rx := l.rx.set p .hunt })

/-- A whole good frame of a verb has arrived: its last byte puts the receiver in HUNT and the frame goes to dispatch (R161, R165, log 3). -/
def requestArrives (v : Verb) (r : Request) (s : State) : State := (s.hunt r.port).takeRequest (some v) r

/-- GET_STATUS (9.6). -/
def execGetStatus (r : Request) (s : State) : Host.Outcome State Fault Refusal := live s (requestArrives .getStatus r)

/-- SET_CONFIG (9.6). -/
def execSetConfig (r : Request) (s : State) : Host.Outcome State Fault Refusal := live s (requestArrives .setConfig r)

/-- GET_CONFIG (9.6). -/
def execGetConfig (r : Request) (s : State) : Host.Outcome State Fault Refusal := live s (requestArrives .getConfig r)

/-- TUNE (9.6). -/
def execTune (r : Request) (s : State) : Host.Outcome State Fault Refusal := live s (requestArrives .tune r)

/-- STOP (9.6). -/
def execStop (r : Request) (s : State) : Host.Outcome State Fault Refusal := live s (requestArrives .stop r)

/-- SCAN (9.6). -/
def execScan (r : Request) (s : State) : Host.Outcome State Fault Refusal := live s (requestArrives .scan r)

/-- ACK_FAULT (9.6). -/
def execAckFault (r : Request) (s : State) : Host.Outcome State Fault Refusal := live s (requestArrives .ackFault r)

/-- READ_TABLE (9.6). -/
def execReadTable (r : Request) (s : State) : Host.Outcome State Fault Refusal := live s (requestArrives .readTable r)

/-- READ_COUNTERS (9.6). -/
def execReadCounters (r : Request) (s : State) : Host.Outcome State Fault Refusal := live s (requestArrives .readCounters r)

/-- CLEAR_COUNTERS (9.6). -/
def execClearCounters (r : Request) (s : State) : Host.Outcome State Fault Refusal := live s (requestArrives .clearCounters r)

/-- MASK_NOTICES (9.6). -/
def execMaskNotices (r : Request) (s : State) : Host.Outcome State Fault Refusal := live s (requestArrives .maskNotices r)

/-- BIND (9.6). -/
def execBind (r : Request) (s : State) : Host.Outcome State Fault Refusal := live s (requestArrives .bind r)

/-- SET_UNITS (9.6). -/
def execSetUnits (r : Request) (s : State) : Host.Outcome State Fault Refusal := live s (requestArrives .setUnits r)

/-- SET_GRANTS (9.6). -/
def execSetGrants (r : Request) (s : State) : Host.Outcome State Fault Refusal := live s (requestArrives .setGrants r)

/-- SET_REFERENCE (9.6). -/
def execSetReference (r : Request) (s : State) : Host.Outcome State Fault Refusal := live s (requestArrives .setReference r)

/-- SET_LINK (9.6). -/
def execSetLink (r : Request) (s : State) : Host.Outcome State Fault Refusal := live s (requestArrives .setLink r)

/-- CLEAR_SCAN (9.6). -/
def execClearScan (r : Request) (s : State) : Host.Outcome State Fault Refusal := live s (requestArrives .clearScan r)

/-- RESET_UNIT (9.6). -/
def execResetUnit (r : Request) (s : State) : Host.Outcome State Fault Refusal := live s (requestArrives .resetUnit r)

/-- RESET_DEVICE (9.6). -/
def execResetDevice (r : Request) (s : State) : Host.Outcome State Fault Refusal := live s (requestArrives .resetDevice r)

end Sys2Proof.Machine
end

