-- ==== Sys2Proof/Machine/LinkEvents.lean ====
section
/-! DEFINITION. The receivers, the transmitters' frame ends, the change of CP speed, and the resets of the part (R160, R161, R169, R185). -/

namespace Sys2Proof.Machine

open Sys2Proof

/-! ### Receivers (R161) -/

/-- The mark of a frame (9.3). -/
abbrev markByte : Byte := 0x5A

/-- The receiver keeps a state. -/
def State.setReceiver (s : State) (p : Port) (x : Receiver) : State := s.modLink (fun l => { l with rx := l.rx.set p x })

/-- The span of a check: LEN and the bytes up to the last of the body (R162). -/
def checkedSpan (len : Byte) (bytes : List Byte) : List Byte := len :: bytes.take len.toNat

/-- The last two bytes of a frame (9.3). -/
def checkBytes (len : Byte) (bytes : List Byte) : List Byte := bytes.drop len.toNat

/-- The frame is good: the check computed equals its last two bytes (R162). -/
def goodFrame (len : Byte) (bytes : List Byte) : Bool := half (crc16 (checkedSpan len bytes)) == checkBytes len bytes

/-- A good frame of the bytes after LEN goes to dispatch (9.3, R165). -/
def State.takeFrame (s : State) (p : Port) (bytes : List Byte) : State :=
  match bytes with
  | unit :: tag :: verb :: flags :: tail => s.takeRequest (verbOfCode verb) { port := p, unit, tag, flags, tail }
  | _ => s

/-- A byte arrives at a receiver (R161). -/
def byteArrived (p : Port) (b : Byte) (s : State) : State :=
  match s.link.rx.get p with
  | .hunt => if b = markByte then s.setReceiver p .length else s
  | .length => if 4 ≤ b.toNat ∧ b.toNat ≤ 250 then s.setReceiver p (.body b []) else s.hunt p
  | .body len got =>
    let bytes := got ++ [b]
    if bytes.length < len.toNat + 2 then s.setReceiver p (.body len bytes)
    else if goodFrame len bytes then (s.hunt p).takeFrame p (bytes.take len.toNat)
    else s.hunt p

/-- BYTE_ARRIVES (R161). -/
def execByteArrives (p : Port) (b : Byte) (s : State) : Host.Outcome State Fault Refusal := live s (byteArrived p b)

/-- The receiver is part-way through a frame, where its gap timer runs. -/
def Receiver.inFrame : Receiver → Bool
  | .hunt => false
  | .length => true
  | .body _ _ => true

/-- The receiver is in BODY, the only state in which a frame's last byte can come (R161). -/
def Receiver.inBody : Receiver → Bool
  | .hunt => false
  | .length => false
  | .body _ _ => true

/-- The cause can arise at the receiver: a LEN byte in LENGTH; a missing stop bit at any byte (in HUNT it changes nothing); a check or a
full reply queue at the last byte of a frame (R161, R165). -/
def causeArises (s : State) (p : Port) : DiscardCause → Bool
  | .lengthByte => s.link.rx.get p == .length
  | .noStopBit => true
  | .badCheck => (s.link.rx.get p).inBody
  | .replyQueueFull => (s.link.rx.get p).inBody && Config.replyCap ≤ (s.link.replies.get p).length

/-- A frame is discarded: the receiver hunts again, and nothing else changes (R161). -/
def frameDiscarded (p : Port) (cause : DiscardCause) (s : State) : State := if causeArises s p cause then s.hunt p else s

/-- FRAME_DISCARDED (R161). -/
def execFrameDiscarded (p : Port) (cause : DiscardCause) (s : State) : Host.Outcome State Fault Refusal := live s (frameDiscarded p cause)

/-- The gap timer, which runs in LENGTH and BODY alone, expires (R161). -/
def gapExpired (p : Port) (s : State) : State := if (s.link.rx.get p).inFrame then s.hunt p else s

/-- GAP_TIMER_EXPIRY (R161). -/
def execGapTimerExpiry (p : Port) (s : State) : Host.Outcome State Fault Refusal := live s (gapExpired p)

/-! ### Transmitters and the CP speed -/

/-- A transmitter reaches the end of its frame (R169). -/
def frameEnds (p : Port) (s : State) : State := s.modLink (fun l => l.frameEnd p)

/-- TRANSMIT_FRAME_END (R169). -/
def execTransmitFrameEnd (p : Port) (s : State) : Host.Outcome State Fault Refusal := live s (frameEnds p)

/-- At the boundary of a stored speed the CP transmitter and receiver change together; a frame part-received is discarded, and the next
frame then begins (R160). -/
def Link.changeSpeed (l : Link) : Link :=
  match l.speedPending with
  | [] => l
  | q :: rest =>
    if l.tx.cp.isNone ∧ q.ahead = 0 then
      ({ l with cpSpeed := q.speed, speedPending := rest, rx := { l.rx with cp := .hunt } }).pumpCp
    else l

/-- The CP speed changes (R160). -/
def speedChanges (s : State) : State := s.modLink Link.changeSpeed

/-- LINK_SPEED_CHANGE (R160). -/
def execLinkSpeedChange (s : State) : Host.Outcome State Fault Refusal := live s speedChanges

/-! ### Resets of the part (R185) -/

/-- POWER_ON: every unit takes its power-on values, FIT and REF are sampled, the CP runs at 115,200 baud (R185, R92, R160). A RESET pin
that is held stays held, and the queue of commands is not the part's (log 10). -/
def execPowerOn (fitHigh refPresent : Bool) (s : State) : Host.Outcome State Fault Refusal :=
  .next { State.powerOn fitHigh refPresent with pending := s.pending, resetHeld := s.resetHeld, freeCount := s.freeCount }

/-- RESET_PIN_ASSERT: while the pin is held the part does nothing (R185). -/
def execResetPinAssert (s : State) : Host.Outcome State Fault Refusal := .next { s with resetHeld := true }

/-- The pin is released: as power-on (R185). -/
def resetPinReleased (fitHigh refPresent : Bool) (s : State) : State :=
  if s.resetHeld then { State.powerOn fitHigh refPresent with pending := s.pending, freeCount := s.freeCount } else s

/-- RESET_PIN_RELEASE (R185). -/
def execResetPinRelease (fitHigh refPresent : Bool) (s : State) : Host.Outcome State Fault Refusal :=
  .next (resetPinReleased fitHigh refPresent s)

/-- The link block at a reset of the part: the CP speed is kept, one still pending takes effect, and a frame in progress on a transmitter
is sent whole at the speed it was begun at (R185 step 4, R168, R178, log 29). -/
def Link.deviceReset (l : Link) : Link := { Link.initial with tx := l.tx, cpSpeed := l.storedSpeed }

/-- A reply in progress that survives a reset no longer makes one due. -/
def TxFrame.withoutReset : TxFrame → TxFrame
  | .reply r => .reply { r with thenReset := false }
  | .notice n => .notice n

/-- A frame in progress that survives a reset goes on at its own speed (R178). -/
def Sending.withoutReset (x : Sending) : Sending := { x with frame := x.frame.withoutReset }

/-- No frame in progress makes a further reset due. -/
def Link.forgetReset (l : Link) : Link :=
  { l with tx := { cp := l.tx.cp.map Sending.withoutReset, sp := l.tx.sp.map Sending.withoutReset } }

/-- The reset of the part that a RESET_DEVICE has made due: fitment, external present flag and CP speed are kept (R185). -/
def deviceResets (s : State) : State :=
  if s.link.resetDue then
    { State.powerOn false s.device.extPresent with
      pending := s.pending
      store := .initial s.store.fitment
      link := s.link.deviceReset.forgetReset
      freeCount := s.freeCount }
  else s

/-- DEVICE_RESET_ACTION (R185). -/
def execDeviceResetAction (s : State) : Host.Outcome State Fault Refusal := live s deviceResets

end Sys2Proof.Machine
end

