-- ==== Sys2Proof/Machine/StoreEvents.lean ====
section
/-! DEFINITION. Bursts, refreshes and the arbiter (5.4, 5.5). -/

namespace Sys2Proof.Machine

open Sys2Proof

/-- The paths in the order the arbiter goes round them: from the one after the last-granted path, ending with it (R113). -/
def roundFrom (last : PathId) : List PathId :=
  [nextPath last, nextPath (nextPath last), nextPath (nextPath (nextPath last)), last]

/-- The first path of the round whose staging queue is not empty (R113). -/
def State.nextBurstPath (s : State) : Option PathId :=
  (roundFrom s.store.lastGranted).find? (fun p => !(s.path p).staging.isEmpty)

/-- A refresh is granted: the count falls by 1 (R113). -/
def State.grantRefresh (s : State) : State :=
  s.modStore (fun t => { t with service := .refresh, refreshPending := t.refreshPending - 1 })

/-- The head burst of a path leaves its staging queue and holds the DRAM (R113). -/
def State.grantBurst (s : State) (p : PathId) : State :=
  match (s.path p).staging with
  | [] => s
  | b :: rest =>
    (s.modPath p (fun x => { x with staging := rest })).modStore (fun t => { t with service := .burst p b false, lastGranted := p })

/-- The grant decision: an urgent refresh, the round of the paths, a pending refresh, IDLE (R113). -/
def State.decideGrant (s : State) : State :=
  if Config.refreshUrgent ≤ s.store.refreshPending then s.grantRefresh
  else match s.nextBurstPath with
    | some p => s.grantBurst p
    | none =>
      if 0 < s.store.refreshPending then s.grantRefresh else s.modStore (fun t => { t with service := .idle })

/-- An IDLE arbiter decides at once (R114). -/
def State.decideIfIdle (s : State) : State := if s.store.service = .idle then s.decideGrant else s

/-- B for the path's held record (R106). -/
def Path.burstLimit (x : Path) : Nat :=
  match x.sig with
  | some h => burstsPerSymbol h.record
  | none => 0

/-- The path may form one more burst of this direction in the symbol in progress: half of B write, half read (R106). -/
def Path.mayForm (x : Path) (dir : BurstDir) : Bool :=
  x.formsBursts && match dir with
    | .write => x.symbol.writes < x.burstLimit / 2
    | .read => x.symbol.reads < x.burstLimit / 2

/-- The symbol in progress has one burst more (R106). -/
def SymbolMarks.formed (m : SymbolMarks) (dir : BurstDir) : SymbolMarks :=
  match dir with
  | .write => { m with writes := m.writes + 1 }
  | .read => { m with reads := m.reads + 1 }

/-- A burst at a full staging queue is discarded; the first discard of a symbol marks it and steps STORE_LATE (R108). -/
def State.discardBurst (s : State) (p : PathId) : State :=
  if (s.path p).symbol.discard then s
  else (s.modPath p (fun x => { x with symbol := { x.symbol with discard := true } })).countPath p .storeLate

/-- A burst is formed: it joins the staging queue or is discarded, and an idle arbiter decides (R106, R107, R108, R114). -/
def burstTaken (p : PathId) (dir : BurstDir) (s : State) : State :=
  if (s.path p).mayForm dir then
    let s := s.modPath p (fun x => { x with symbol := x.symbol.formed dir })
    let s := if (s.path p).staging.length < Config.stagingCap then s.modPath p (fun x => { x with staging := x.staging ++ [dir] })
      else s.discardBurst p
    s.decideIfIdle
  else s

/-- BURST_FORMED (R107). -/
def execBurstFormed (p : PathId) (dir : BurstDir) (s : State) : Host.Outcome State Fault Refusal := live s (burstTaken p dir)

/-- A refresh falls due: the count rises, staying at 8, and an idle arbiter decides (R112, R114). -/
def refreshFallsDue (s : State) : State :=
  (s.modStore (fun t => { t with refreshPending := min Config.refreshCap (t.refreshPending + 1) })).decideIfIdle

/-- REFRESH_DUE (R112). -/
def execRefreshDue (s : State) : Host.Outcome State Fault Refusal := live s refreshFallsDue

/-- The grant that holds the DRAM ends, and the next is decided (R113, R115). -/
def grantEnds (s : State) : State := if s.store.service = .idle then s else s.decideGrant

/-- GRANT_END (R113). -/
def execGrantEnd (s : State) : Host.Outcome State Fault Refusal := live s grantEnds

end Sys2Proof.Machine
end

