-- ==== Sys2Proof/Machine/PathEvents.lean ====
section
/-! DEFINITION. What the stages and timers of a path do to it: timing, frames, signalling records, fills, losses and expiries (2.6 to 2.9,
4.3, 7.2). -/

namespace Sys2Proof.Machine

open Sys2Proof

/-! ### Symbol timing found -/

/-- SPILL with the flag, spread, guard length, anchor and estimate number as they stand (R65). -/
def State.raiseSpill (s : State) (p : PathId) : State :=
  let t := (s.path p).tracker
  s.raise (.path p) (.spill t.spill (t.spread (s.path p).config) t.guardLength t.anchor t.estimate)

/-- The timing origin is fixed and the echo table and anchor are seeded; a spill flag that becomes set raises SPILL (R47, R59, R65). -/
def State.seed (s : State) (p : PathId) (origin : TimingOrigin) (coarse : List Observation) : State :=
  let s := s.modPath p (fun x => { x with tracker := seedTracker x.config origin coarse })
  if (s.path p).tracker.spill then s.raiseSpill p else s

/-- The mode and guard found are those of the held signalling record (R86). -/
def Path.timingFits (x : Path) (origin : TimingOrigin) : Bool :=
  match x.sig with
  | some h => h.record.symbolMode.toNat == modeCode origin.mode && h.record.guardFraction.toNat == guardCode origin.fraction
  | none => false

/-- Timing regained in HOLDOVER: no frame found since, a window begins, a new symbol is in progress under the anchor kept (R66, R77, R86).
That a symbol in which timing was lost and that has not closed is dropped here, its bursts and discards unjudged, is the model's choice
(log 34): R109 judges a symbol at its close and does not speak of this one. -/
def Path.regainTiming (x : Path) : Path :=
  { x with holdTiming := true, frameFound := false, window := some (freshWindow x.config), symbol := .clear, symbolAnchor := x.tracker.anchor }

/-- Symbol timing found: in SEARCH (R31), in HOLDOVER without timing (R86), in the search phase of SCAN (R135). -/
def timingFound (p : PathId) (origin : TimingOrigin) (coarse : List Observation) (s : State) : State :=
  let x := s.path p
  if s.stagesRun p then
    if x.state = .search then ((s.seed p origin coarse).movePath p .symbol .timingFound).blankIfImpulse p
    else if x.state = .holdover ∧ x.holdTiming = false ∧ x.timingFits origin then
      (s.modPath p Path.regainTiming).blankIfImpulse p
    else match x.scanIn .search with
      | some r => ((s.seed p origin coarse).modPath p (fun x => x.symbolPhase r)).blankIfImpulse p
      | none => s
  else s

/-- SYMBOL_TIMING_FOUND (R31). -/
def execSymbolTimingFound (p : PathId) (mode : SymbolMode) (fraction : GuardFraction) (coarse : List Observation) (s : State) :
    Host.Outcome State Fault Refusal :=
  live s (timingFound p { mode, fraction } coarse)

/-! ### Frame start found -/

/-- Frame start found: in SYMBOL (R32), in HOLDOVER with timing (R86), in the symbol phase of SCAN (R135). -/
def frameStartFound (p : PathId) (s : State) : State :=
  let x := s.path p
  if s.stagesRun p then
    if x.state = .symbol then s.movePath p .frame .frameFound
    else if x.state = .holdover ∧ x.holdTiming then s.modPath p (fun x => { x with frameFound := true })
    else match x.scanIn .symbol with
      | some r => s.modPath p (fun x => x.framePhase r)
      | none => s
  else s

/-- FRAME_START_FOUND (R32). -/
def execFrameStartFound (p : PathId) (s : State) : Host.Outcome State Fault Refusal := live s (frameStartFound p)

/-! ### Signalling record decoded -/

/-- The record becomes the path's signalling record (R23). -/
def State.holdRecord (s : State) (p : PathId) (d : SigRecord) : State :=
  s.modPath p (fun x => { x with sig := some { record := d, unsupported := !supportedRecord d } })

/-- An unsupported record: written and marked, then the fault with the change count (R34, R145). -/
def State.takeUnsupported (s : State) (p : PathId) (d : SigRecord) : State :=
  (s.holdRecord p d).takeFault p .unsupportedSignal (d.changeCount.setWidth 32)

/-- The record differs in its change count from the held record (R23). -/
def Path.changeCountDiffers (x : Path) (d : SigRecord) : Bool :=
  match x.sig with
  | some h => h.record.changeCount != d.changeCount
  | none => true

/-- A supported record in FRAME: the pages are requested (R33, R97). -/
def State.takeInFrame (s : State) (p : PathId) (d : SigRecord) : State :=
  let s := s.holdRecord p d
  if s.canGrant (pageNeed d) then (s.grant p (pageNeed d)).movePath p .fill .signalling
  else (s.joinQueue p (pageNeed d)).movePath p .pageWait .signalling

/-- A supported record with another change count in PAGE_WAIT (R35). -/
def State.takeInPageWait (s : State) (p : PathId) (d : SigRecord) : State :=
  let old := s.waitedNeed p
  let s := s.holdRecord p d
  if old = pageNeed d then s
  else
    let s := s.withdraw p
    if s.canGrant (pageNeed d) then (s.grant p (pageNeed d)).movePath p .fill .pages else s.joinQueue p (pageNeed d)

/-- The page holding is resized to n' pages and the fill restarts (R103, R104). -/
def State.resize (s : State) (p : PathId) (n' : Nat) : State :=
  let n := (s.path p).pages.length
  let s := s.dropStaging p
  if n' = n then s.movePath p .fill .resize
  else if n' < n then ((s.releasePages p n').movePath p .fill .resize).examine
  else if s.canGrant (n' - n) then (s.grant p (n' - n)).movePath p .fill .resize
  else (((s.releasePages p 0).joinQueue p n').movePath p .pageWait .resize).examine

/-- The record has the interleaving depth of the held one (R37). -/
def Path.sameDepth (x : Path) (d : SigRecord) : Bool :=
  match x.sig with
  | some h => h.record.depth == d.depth
  | none => false

/-- A supported record with another change count in FILL, LOCKED or HOLDOVER (R37). -/
def State.takeWhileHolding (s : State) (p : PathId) (d : SigRecord) : State :=
  let same := (s.path p).sameDepth d
  let s := (s.holdRecord p d).modPath p Path.restartWindow
  if same then s else s.resize p (pageNeed d)

/-- The states in which a decoded record is compared with the held one: PAGE_WAIT, FILL, LOCKED, and HOLDOVER with timing; in each only
when a frame has been found since symbol timing was found (R21, R23, log 19). -/
def Path.comparesRecords (x : Path) : Bool :=
  x.frameFound && (x.state == .pageWait || x.state == .fill || x.state == .locked || (x.state == .holdover && x.holdTiming))

/-- A signalling record is decoded (R33 to R37, R135). -/
def recordDecoded (p : PathId) (d : SigRecord) (s : State) : State :=
  let x := s.path p
  if s.stagesRun p then
    if x.state = .frame then if supportedRecord d then s.takeInFrame p d else s.takeUnsupported p d
    else if x.comparesRecords then
      if x.changeCountDiffers d then
        if supportedRecord d then if x.state = .pageWait then s.takeInPageWait p d else s.takeWhileHolding p d
        else s.takeUnsupported p d
      else s
    else match x.scanIn .frame with
      | some r => s.channelFind p r d
      | none => s
  else s

/-- SIGNALLING_RECORD_DECODED (R33). -/
def execSignallingRecordDecoded (p : PathId) (record : SigRecord) (s : State) : Host.Outcome State Fault Refusal :=
  live s (recordDecoded p record)

/-! ### Fill complete -/

/-- Fill complete: LOCKED, the rate latched and taken by the outputs, the tune ended, PATH_STATE raised (R36). -/
def fillCompleted (p : PathId) (s : State) : State :=
  if (s.path p).state = .fill ∧ s.stagesRun p then
    ((((s.enterPath p .locked).latchRate p).endTune p .locked)).raise (.path p) (.pathState .fill .locked .filled)
  else s

/-- FILL_COMPLETE (R36). -/
def execFillComplete (p : PathId) (s : State) : Host.Outcome State Fault Refusal := live s (fillCompleted p)

/-! ### Symbol timing lost -/

/-- HOLDOVER without timing: no window runs (R77, R83, R86). -/
def Path.dropTiming (x : Path) : Path := { x with holdTiming := false, frameFound := false, window := none }

/-- Symbol timing lost, by state (R38, R83, R86, R135). -/
def timingLost (p : PathId) (s : State) : State :=
  let x := s.path p
  if s.stagesRun p then
    if x.state = .symbol ∨ x.state = .frame then s.movePath p .search .timing
    else if x.state = .pageWait then (s.withdraw p).movePath p .search .timing
    else if x.state = .fill then (s.releaseHolding p).movePath p .search .timing
    else if x.state = .locked then (s.modPath p Path.dropTiming).movePath p .holdover .timing
    else if x.state = .holdover ∧ x.holdTiming then s.modPath p Path.dropTiming
    else match x.scanIn .symbol, x.scanIn .frame with
      | some r, _ => s.channelEmpty p r
      | none, some r => s.channelEmpty p r
      | none, none => s
  else s

/-- SYMBOL_TIMING_LOST (R38). -/
def execSymbolTimingLost (p : PathId) (s : State) : Host.Outcome State Fault Refusal := live s (timingLost p)

/-! ### The timers -/

/-- The attempts count of the tune record steps by 1, staying at 255 (R30, R32). -/
def Path.stepAttempts (x : Path) : Path :=
  { x with tune := x.tune.map (fun t => { t with attempts := min 255 (t.attempts + 1) }) }

/-- The persist flag of the tune record. -/
def Path.persists (x : Path) : Bool :=
  match x.tune with
  | some t => t.persist
  | none => false

/-- The SEARCH timer expires: in SEARCH the persist flag decides (R30), in the search phase of SCAN the channel ends empty (R135). -/
def searchExpired (p : PathId) (s : State) : State :=
  let x := s.path p
  if x.searchTimer.isSome then
    if x.state = .search then
      let s := s.modPath p Path.stepAttempts
      if x.persists then s.modPath p (fun x => { x with searchTimer := some Config.searchMs })
      else (s.movePath p .idle .timeout).endTune p .noSignal
    else match x.scanIn .search with
      | some r => s.channelEmpty p r
      | none => s
  else s

/-- SEARCH_TIMER_EXPIRY (R30). -/
def execSearchTimerExpiry (p : PathId) (s : State) : Host.Outcome State Fault Refusal := live s (searchExpired p)

/-- The SYMBOL timer expires: SEARCH (R32), or the channel ends empty (R135). -/
def symbolExpired (p : PathId) (s : State) : State :=
  let x := s.path p
  if x.symbolTimer.isSome then
    if x.state = .symbol then (s.modPath p Path.stepAttempts).movePath p .search .timeout
    else match x.scanIn .symbol with
      | some r => s.channelEmpty p r
      | none => s
  else s

/-- SYMBOL_TIMER_EXPIRY (R32). -/
def execSymbolTimerExpiry (p : PathId) (s : State) : Host.Outcome State Fault Refusal := live s (symbolExpired p)

/-- The FRAME timer expires: SEARCH (R32), or the channel ends empty (R135). -/
def frameExpired (p : PathId) (s : State) : State :=
  let x := s.path p
  if x.frameTimer.isSome then
    if x.state = .frame then (s.modPath p Path.stepAttempts).movePath p .search .timeout
    else match x.scanIn .frame with
      | some r => s.channelEmpty p r
      | none => s
  else s

/-- FRAME_TIMER_EXPIRY (R32). -/
def execFrameTimerExpiry (p : PathId) (s : State) : Host.Outcome State Fault Refusal := live s (frameExpired p)

/-- The holdover timer expires: the pages go back, and the persist flag sends the path to SEARCH or IDLE (R87). -/
def holdoverExpired (p : PathId) (s : State) : State :=
  let x := s.path p
  if x.state = .holdover ∧ x.holdoverTimer.isSome then
    (s.releaseHolding p).movePath p (if x.persists then .search else .idle) .lost
  else s

/-- HOLDOVER_TIMER_EXPIRY (R87). -/
def execHoldoverTimerExpiry (p : PathId) (s : State) : Host.Outcome State Fault Refusal := live s (holdoverExpired p)

end Sys2Proof.Machine
end

