-- ==== Sys2Proof/Machine/Supervision.lean ====
section
/-! DEFINITION. Estimates (chapter 3) and symbol closes (4.2, 4.3, 5.4) of a path. -/

namespace Sys2Proof.Machine

open Sys2Proof

/-! ### ESTIMATE -/

/-- An anchor as a 32-bit value, two's complement; 0 for an absent one. -/
def anchorWord : Option Int → Word
  | some a => BitVec.ofInt 32 a
  | none => 0

/-- The spill flag's change raises SPILL, the anchor's move steps ANCHOR_MOVES (R65, R67). -/
def State.reportEstimate (s : State) (p : PathId) (before : Tracker) : State :=
  let after := (s.path p).tracker
  let s := if before.spill = after.spill then s else s.raiseSpill p
  if before.anchor.isSome ∧ before.anchor ≠ after.anchor then s.countPath p .anchorMoves else s

/-- An estimate is processed whole (R51); a clamped one that brings the run to 16 then faults the path, but not in SCAN (R69, R71). -/
def estimateTaken (p : PathId) (observed : List Observation) (s : State) : State :=
  let x := s.path p
  if x.hasTiming ∧ s.stagesRun p then
    let result := estimateTracker x.config x.tracker observed
    let s := (s.modPath p (fun x => { x with tracker := result.1 })).reportEstimate p x.tracker
    if result.2 ∧ result.1.clampedRun = Config.clampedCap ∧ x.state ≠ .scan then
      s.takeFault p .anchorRunaway (anchorWord result.1.anchor)
    else s
  else s

/-- ESTIMATE (R51). -/
def execEstimate (p : PathId) (observed : List Observation) (s : State) : Host.Outcome State Fault Refusal :=
  live s (estimateTaken p observed)

/-! ### SYMBOL_CLOSE -/

/-- A window result that ends in LOCKED below threshold, or in HOLDOVER recovered, moves the path (R81, R82, R85). -/
def State.judge (s : State) (p : PathId) (r : Quality) : State :=
  let x := s.path p
  if x.state = .locked ∧ belowThreshold x.config r then
    (s.modPath p (fun x => { x with holdTiming := true })).movePath p .holdover .quality
  else if x.state = .holdover ∧ recovered x.config r then
    ((s.enterPath p .locked).latchRate p).raise (.path p) (.pathState .holdover .locked .recovered)
  else s

/-- The running window takes the symbol; its N-th symbol ends it, its result becomes the last quality, a new window begins, and the result
is acted on (R74, R75, R76). -/
def State.closeWindow (s : State) (p : PathId) (q : Half) : State :=
  let x := s.path p
  match x.window with
  | none => s
  | some w =>
    let w := w.take x.symbol.blanked q.toNat
    if w.counted < w.length then s.modPath p (fun x => { x with window := some w })
    else (s.modPath p (fun x => { x with window := some (freshWindow x.config), quality := w.result })).judge p w.result

/-- The discard run after a symbol with these marks (R109). -/
def nextDiscardRun (m : SymbolMarks) (run : Nat) : Nat :=
  if m.writes + m.reads = 0 then run else if m.discard then min Config.discardCap (run + 1) else 0

/-- The bursts of the symbol are judged, and the next symbol begins without marks, under the anchor as it stands (R66); a run brought to 8
faults a path that holds pages (R109, R110). -/
def State.closeBursts (s : State) (p : PathId) : State :=
  let x := s.path p
  let s := s.modPath p (fun x => { x.nextSymbol with discardRun := nextDiscardRun x.symbol x.discardRun })
  if x.discardRun < Config.discardCap ∧ nextDiscardRun x.symbol x.discardRun = Config.discardCap ∧ x.state.holding then
    s.takeFault p .storeStall x.counters.storeLate.value
  else s

/-- The close of a symbol. Without timing in HOLDOVER only the bursts of the symbol in which timing was lost are judged (R110, log 20). -/
def symbolCloses (p : PathId) (q : Half) (s : State) : State :=
  if s.stagesRun p then
    if (s.path p).hasTiming then ((s.closeWindow p q).closeBursts p).blankIfImpulse p
    else if (s.path p).state = .holdover then s.closeBursts p
    else s
  else s

/-- SYMBOL_CLOSE (R73). -/
def execSymbolClose (p : PathId) (errorFigure : Half) (s : State) : Host.Outcome State Fault Refusal :=
  live s (symbolCloses p errorFigure)

end Sys2Proof.Machine
end

