-- ==== Sys2Proof/Machine/Dispatch.lean ====
section
/-! DEFINITION. One arm per command: the meaning it has. -/

namespace Sys2Proof.Machine

open Sys2Proof

/-- What a command does to everything but the queue. -/
def exec (i : Instr) (s : State) : Host.Outcome State Fault Refusal :=
  match i with
  | .powerOn fitHigh refPresent => Sys2Proof.Machine.execPowerOn fitHigh refPresent s
  | .resetPinAssert => Sys2Proof.Machine.execResetPinAssert s
  | .resetPinRelease fitHigh refPresent => Sys2Proof.Machine.execResetPinRelease fitHigh refPresent s
  | .frameDiscarded port cause => Sys2Proof.Machine.execFrameDiscarded port cause s
  | .gapTimerExpiry port => Sys2Proof.Machine.execGapTimerExpiry port s
  | .getStatus r => Sys2Proof.Machine.execGetStatus r s
  | .setConfig r => Sys2Proof.Machine.execSetConfig r s
  | .getConfig r => Sys2Proof.Machine.execGetConfig r s
  | .tune r => Sys2Proof.Machine.execTune r s
  | .stop r => Sys2Proof.Machine.execStop r s
  | .scan r => Sys2Proof.Machine.execScan r s
  | .ackFault r => Sys2Proof.Machine.execAckFault r s
  | .readTable r => Sys2Proof.Machine.execReadTable r s
  | .readCounters r => Sys2Proof.Machine.execReadCounters r s
  | .clearCounters r => Sys2Proof.Machine.execClearCounters r s
  | .maskNotices r => Sys2Proof.Machine.execMaskNotices r s
  | .bind r => Sys2Proof.Machine.execBind r s
  | .setUnits r => Sys2Proof.Machine.execSetUnits r s
  | .setGrants r => Sys2Proof.Machine.execSetGrants r s
  | .setReference r => Sys2Proof.Machine.execSetReference r s
  | .setLink r => Sys2Proof.Machine.execSetLink r s
  | .clearScan r => Sys2Proof.Machine.execClearScan r s
  | .resetUnit r => Sys2Proof.Machine.execResetUnit r s
  | .resetDevice r => Sys2Proof.Machine.execResetDevice r s
  | .deviceResetAction => Sys2Proof.Machine.execDeviceResetAction s
  | .transmitFrameEnd port => Sys2Proof.Machine.execTransmitFrameEnd port s
  | .linkSpeedChange => Sys2Proof.Machine.execLinkSpeedChange s
  | .externalReturns => Sys2Proof.Machine.execExternalReturns s
  | .externalLost => Sys2Proof.Machine.execExternalLost s
  | .switchTimerExpiry => Sys2Proof.Machine.execSwitchTimerExpiry s
  | .calibrationTimerExpiry inp => Sys2Proof.Machine.execCalibrationTimerExpiry inp s
  | .gainPeriodClose inp occupancy clipCount => Sys2Proof.Machine.execGainPeriodClose inp occupancy clipCount s
  | .impulseEventBegins inp magnitude => Sys2Proof.Machine.execImpulseEventBegins inp magnitude s
  | .impulseEventEnds inp => Sys2Proof.Machine.execImpulseEventEnds inp s
  | .overcurrent inp => Sys2Proof.Machine.execOvercurrent inp s
  | .retryTimerExpiry inp => Sys2Proof.Machine.execRetryTimerExpiry inp s
  | .tripFreeTimerExpiry inp => Sys2Proof.Machine.execTripFreeTimerExpiry inp s
  | .symbolTimingFound p mode fraction coarse => Sys2Proof.Machine.execSymbolTimingFound p mode fraction coarse s
  | .frameStartFound p => Sys2Proof.Machine.execFrameStartFound p s
  | .signallingRecordDecoded p record => Sys2Proof.Machine.execSignallingRecordDecoded p record s
  | .fillComplete p => Sys2Proof.Machine.execFillComplete p s
  | .symbolTimingLost p => Sys2Proof.Machine.execSymbolTimingLost p s
  | .searchTimerExpiry p => Sys2Proof.Machine.execSearchTimerExpiry p s
  | .symbolTimerExpiry p => Sys2Proof.Machine.execSymbolTimerExpiry p s
  | .frameTimerExpiry p => Sys2Proof.Machine.execFrameTimerExpiry p s
  | .estimate p observed => Sys2Proof.Machine.execEstimate p observed s
  | .symbolClose p errorFigure => Sys2Proof.Machine.execSymbolClose p errorFigure s
  | .holdoverTimerExpiry p => Sys2Proof.Machine.execHoldoverTimerExpiry p s
  | .decodedPacket p packet status => Sys2Proof.Machine.execDecodedPacket p packet status s
  | .slotStart o => Sys2Proof.Machine.execSlotStart o s
  | .burstFormed p dir => Sys2Proof.Machine.execBurstFormed p dir s
  | .refreshDue => Sys2Proof.Machine.execRefreshDue s
  | .grantEnd => Sys2Proof.Machine.execGrantEnd s
  | .byteArrives port byte => Sys2Proof.Machine.execByteArrives port byte s
  | .packetInProgressFinishes o => Sys2Proof.Machine.execPacketInProgressFinishes o s

end Sys2Proof.Machine
end

