-- ==== Sys2Proof/Machine/Tick.lean ====
section
/-! DEFINITION. The tick of the part's clock: 1 ms of uptime (R186, log 6). -/

namespace Sys2Proof.Machine

open Sys2Proof

/-- The uptime advances by 1 ms, wrapping; while the RESET pin is held it stands (R175, R185). -/
def State.tick (s : State) : State := if s.resetHeld then s else s.modDevice (fun d => { d with uptime := d.uptime + 1 })

end Sys2Proof.Machine
end

