-- ==== Sys2Proof/Machine/Step.lean ====
section
/-! DEFINITION. One step: the command at the front of the queue, or a tick of 1 ms when none waits (log 6). -/

namespace Sys2Proof.Machine

open Sys2Proof

/-- The state with the queue of commands given. -/
def State.withPending (s : State) (q : List Instr) : State := { s with pending := q }

/-- Takes the command at the front of the queue and answers its outcome on the rest; an empty queue is a tick of the uptime. -/
def step (s : State) : Host.Outcome State Fault Refusal :=
  match s.pending with
  | [] => .next s.tick
  | c :: rest => exec c (s.withPending rest)

/-- The command a word spells put at the front of the queue; no row of the table gives bits, so the state is unchanged. -/
def State.withFetchWord (s : State) (nbits w : Nat) : State :=
  match decodeTableWord nbits w with
  | some c => s.withPending (c :: s.pending)
  | none => s

end Sys2Proof.Machine
end

