-- ==== Sys2Proof/Machine/Frames.lean ====
section
/-! DEFINITION. The bytes of the frames the transmitters send: replies and notices (9.3, 9.4, R162, R163, 10.1), and their bits on the
serial lines (R160). -/

namespace Sys2Proof.Machine

open Sys2Proof

/-- Status codes (9.4). -/
def Status.code : Status → Nat
  | .ok => 0x00
  | .accepted => 0x01
  | .conditionFalse => 0x02
  | .busy => 0x10
  | .wrongState => 0x11
  | .unitOff => 0x12
  | .notGranted => 0x13
  | .unknownUnit => 0x20
  | .unknownVerb => 0x21
  | .badLength => 0x22
  | .badValue => 0x23

/-- STATUS of a notice frame (9.4). -/
abbrev noticeStatus : Nat := 0x80

/-- Reason codes of PATH_STATE (R41). -/
def Reason.code : Reason → Nat
  | .enabled => 0x01
  | .disabled => 0x02
  | .tune => 0x03
  | .stop => 0x04
  | .timingFound => 0x05
  | .frameFound => 0x06
  | .signalling => 0x07
  | .pages => 0x08
  | .filled => 0x09
  | .timing => 0x0A
  | .timeout => 0x0B
  | .resize => 0x0C
  | .quality => 0x0D
  | .recovered => 0x0E
  | .lost => 0x0F
  | .inputOff => 0x10
  | .inputReset => 0x11
  | .unitReset => 0x12
  | .fault => 0x13
  | .ack => 0x14
  | .scan => 0x15
  | .scanEnd => 0x16

/-- A cause of a fault that has been taken; a second fault always has a primary cause (R146). -/
def causeByte : Option FaultCause → List Byte
  | some c => u8 c.code
  | none => u8 0

/-- The class-detail bytes of a notice, the fields in the order of 10.1 (log 17). -/
def NoticeDetail.bytes : NoticeDetail → List Byte
  | .pathState old new reason => u8 old.code ++ u8 new.code ++ u8 reason.code
  | .tuneResult sender result attempts => tagPair (some sender) ++ u8 result.code ++ u8 attempts
  | .pathFault cause previous pages sender inFlight value =>
    u8 cause.code ++ u8 previous.code ++ u8 pages ++ tagPair sender ++ flagByte inFlight ++ word value
  | .doubleFault primary secondary previous pages sender inFlight =>
    causeByte primary ++ u8 secondary.code ++ u8 previous.code ++ u8 pages ++ tagPair sender ++ flagByte inFlight
  | .spill flag spread guardLength anchor estimate =>
    flagByte flag ++ u16 spread ++ u16 guardLength ++ anchorBytes anchor ++ half estimate
  | .inputLevel weak overload gain occupancy clipCount =>
    flagByte weak ++ flagByte overload ++ u8 gain ++ u8 occupancy ++ u16 clipCount
  | .mastSupply old new retries => u8 old.code ++ u8 new.code ++ u8 retries
  | .counterWrap number => u8 number
  | .scanDone r =>
    tagPair (some r.sender) ++ u8 (inputCode r.input) ++ u8 (bandCode r.band) ++ u8 r.first ++ u8 r.last ++ u8 r.done ++ u8 r.finds ++
      flagByte r.truncated ++ flagByte r.stopped
  | .reference old new step => u8 old.code ++ u8 new.code ++ flagByte step

/-- A reply frame's bytes (9.3). -/
def Reply.bytes (r : Reply) : List Byte := frameOf ([r.unit, r.tag] ++ u8 r.status.code ++ r.body)

/-- A notice frame's bytes (9.3, R178). -/
def NoticeRecord.bytes (n : NoticeRecord) : List Byte :=
  frameOf (u8 n.unit.number ++ [0] ++ u8 noticeStatus ++ u8 n.detail.cls.code ++ u8 n.repeats ++ flagByte n.overrun ++ word n.timestamp ++
    n.detail.bytes)

/-- The bytes of a frame on a transmitter. -/
def TxFrame.bytes : TxFrame → List Byte
  | .reply r => r.bytes
  | .notice n => n.bytes

/-! ### The serial lines (R160) -/

/-- A byte on a serial line: a start bit, the 8 data bits with the least significant first, no parity bit, a stop bit (R160). -/
def serialByte (b : Byte) : List SerialBit := [.start] ++ (byteBits b).reverse.map .data ++ [.stop]

/-- A frame on its way, one bit time after another (R160). -/
def Sending.serialBits (x : Sending) : List SerialBit := x.frame.bytes.flatMap serialByte

/-- The bits in a second at a speed (R160). -/
def LinkSpeed.baud : LinkSpeed → Nat
  | .b57600 => 57600
  | .b115200 => 115200
  | .b230400 => 230400
  | .b460800 => 460800

/-- What a port's transmitter sends in its frame in progress; nothing while it is idle (R169). -/
def Link.serialLine (l : Link) (p : Port) : List SerialBit :=
  match l.tx.get p with
  | some x => x.serialBits
  | none => []

end Sys2Proof.Machine
end

