-- ==== Sys2Proof/Safety.lean ====
section
/-! DEFINITION. What the statements speak of: the commands of the verbs, when a request reaches its unit and how it ends, and the
invariants of the part. -/

namespace Sys2Proof.Machine

open Sys2Proof

/-! ### Requests -/

/-- The command of a verb's frame. -/
def requestCommand (v : Verb) (r : Request) : Instr :=
  match v with
  | .getStatus => .getStatus r
  | .setConfig => .setConfig r
  | .getConfig => .getConfig r
  | .tune => .tune r
  | .stop => .stop r
  | .scan => .scan r
  | .ackFault => .ackFault r
  | .readTable => .readTable r
  | .readCounters => .readCounters r
  | .clearCounters => .clearCounters r
  | .maskNotices => .maskNotices r
  | .bind => .bind r
  | .setUnits => .setUnits r
  | .setGrants => .setGrants r
  | .setReference => .setReference r
  | .setLink => .setLink r
  | .clearScan => .clearScan r
  | .resetUnit => .resetUnit r
  | .resetDevice => .resetDevice r

/-- Verb codes (9.6), the other way round. -/
def Verb.code : Verb → Byte
  | .getStatus => 0x01
  | .setConfig => 0x02
  | .getConfig => 0x03
  | .tune => 0x10
  | .stop => 0x11
  | .scan => 0x12
  | .ackFault => 0x13
  | .readTable => 0x20
  | .readCounters => 0x21
  | .clearCounters => 0x22
  | .maskNotices => 0x23
  | .bind => 0x30
  | .setUnits => 0x40
  | .setGrants => 0x41
  | .setReference => 0x42
  | .setLink => 0x43
  | .clearScan => 0x44
  | .resetUnit => 0x50
  | .resetDevice => 0x51

/-- The bytes of a request's frame (9.3). -/
def requestBytes (v : Verb) (r : Request) : List Byte := frameOf ([r.unit, r.tag, v.code, r.flags] ++ r.tail)

/-- The seven checks of dispatch pass for a verb at a unit (R165). -/
abbrev ChecksPass (s : State) (v : Verb) (r : Request) (u : UnitId) : Prop :=
  unitOf r.unit = some u ∧ v.takenBy u = true ∧ (v = .getStatus ∨ s.unitEnabled u = true) ∧
  (r.port = .cp ∨ (v.access u.kind).heldBy s.device.grants = true) ∧
  tooShortForCondition r = false ∧ v.allowsLength (bodyOf r).length = true ∧ r.tag ≠ 0 ∧ badConditionForm v r = false

/-- The request reaches its unit: the part runs, the reply queue has room, and the checks of dispatch pass (R165, R185). -/
abbrev HandsOver (s : State) (v : Verb) (r : Request) (u : UnitId) : Prop :=
  s.resetHeld = false ∧ (s.link.replies.get r.port).length < Config.replyCap ∧ ChecksPass s v r u

/-- The request as its unit gets it (R163, R171). -/
def takenOf (r : Request) (u : UnitId) : Taken :=
  { unit := u, port := r.port, tag := r.tag, wanted := replyWanted r, condition := conditionOf r, body := bodyOf r }

/-- The unit's last taken tag becomes the request's (R174). -/
def State.tagged (s : State) (u : UnitId) (r : Request) : State :=
  { s with lastTags := s.lastTags.set u (some { tag := r.tag, port := r.port }) }

/-- How a taken request ends, from the state in which its receiver is in HUNT again: the unit's effect and its last taken tag (R174), with
the reply if there is one (R166). Where the reply and a notice of the effect become pending together, the state is one of the two that the
two orders of R169 give; nothing says which. -/
def Concludes (s : State) (r : Request) (u : UnitId) (st : Status) (body : List Byte) (thenReset : Bool) (effect : State → State)
    (t : State) : Prop :=
  let reply : Reply := { unit := r.unit, tag := r.tag, status := st, body, thenReset }
  if repliesTo r st = false then t = (effect s).tagged u r
  else if pendingTogether s (effect s) r.port = false then t = ((effect s).tagged u r).sendReply r.port reply
  else t = (((effect s).tagged u r).sendReply r.port reply).useChoice ∨ t = ((effect (s.occupyCp (.reply reply))).tagged u r).useChoice

/-- The command ends so: a next state that `Concludes` describes. -/
def TakenWith (v : Verb) (s : State) (r : Request) (u : UnitId) (st : Status) (body : List Byte) (effect : State → State) : Prop :=
  ∃ t, exec (requestCommand v r) s = .next t ∧ Concludes (s.hunt r.port) r u st body false effect t

/-- The command is refused: its receiver is in HUNT again, an empty reply with the status waits, and nothing else has changed (R165 to
R167). -/
def RefusedWith (v : Verb) (s : State) (r : Request) (st : Status) : Prop :=
  exec (requestCommand v r) s =
    .next ((s.hunt r.port).sendReply r.port { unit := r.unit, tag := r.tag, status := st, body := [], thenReset := false })

/-- The bytes arriving one after another at a port's receiver. -/
def bytesArrive (p : Port) : List Byte → State → Host.Outcome State Fault Refusal
  | [], s => .next s
  | b :: rest, s =>
    match exec (.byteArrives p b) s with
    | .next t => bytesArrive p rest t
    | .fault f => .fault f
    | .refused f => .refused f

/-! ### Paths -/

/-- The part runs and the path's input is RUNNING, so the path's stages deliver (R4, R185). -/
abbrev Delivering (s : State) (p : PathId) : Prop := s.resetHeld = false ∧ s.stagesRun p = true

/-- Two states that agree in everything but the paths, the outputs' queues and the link block. -/
abbrev SameUnits (s t : State) : Prop :=
  t.pending = s.pending ∧ t.resetHeld = s.resetHeld ∧ t.device = s.device ∧ t.inputs = s.inputs ∧ t.store = s.store ∧
    t.lastTags = s.lastTags ∧ t.freeCount = s.freeCount

/-! ### Invariants -/

/-- The pages of the four paths, in the order of the paths. -/
def State.heldPages (s : State) : List Nat := s.paths.p0.pages ++ s.paths.p1.pages ++ s.paths.p2.pages ++ s.paths.p3.pages

/-- Every page number from 0 to F - 1 lies in the free list or in one path's page list, and in no list twice (R93). -/
def PagesPartitioned (s : State) : Prop := (s.store.free ++ s.heldPages).Perm (List.range s.store.fitment)

/-- The wait queue holds exactly the paths in PAGE_WAIT, each once, and only FILL, LOCKED and HOLDOVER hold pages (R20, R96). -/
def HoldingsMatchStates (s : State) : Prop :=
  (s.store.wait.map Waiting.path).Nodup ∧ (∀ p, p ∈ s.store.wait.map Waiting.path ↔ (s.path p).state = .pageWait) ∧
  (∀ p, (s.path p).state.holding = false → (s.path p).pages = [])

/-- The unit-enable set names exactly the inputs, paths and outputs that are not OFF (R182). -/
def EnablesMatchStates (s : State) : Prop :=
  (∀ i, s.unitEnabled (.input i) = true ↔ (s.input i).state ≠ .off) ∧
  (∀ p, s.unitEnabled (.path p) = true ↔ (s.path p).state ≠ .off) ∧
  (∀ o, s.unitEnabled (.output o) = true ↔ (s.output o).state ≠ .off)

/-- The notice queue holds at most 32 records, no two of one unit and class (R176); each reply queue holds at most 8 (R168). -/
def QueuesWellFormed (s : State) : Prop :=
  s.link.notices.length ≤ Config.noticeCap ∧
  s.link.notices.Pairwise (fun m n => ¬(m.unit = n.unit ∧ m.detail.cls = n.detail.cls)) ∧
  s.link.replies.cp.length ≤ Config.replyCap ∧ s.link.replies.sp.length ≤ Config.replyCap

/-- The two unmaskable classes stand enabled in every set, and the unused bits stand clear (R172). -/
def EnableSetsLegal (s : State) : Prop := ∀ u, s.link.enables.get u &&& 0xFC0C = 0x000C

/-- An echo table has at most 8 entries, in ascending order of delay, adjacent ones more than 2 ticks apart (R46). -/
def EchoTableOrdered (table : List EchoEntry) : Prop :=
  table.length ≤ Config.echoCap ∧ table.Pairwise (fun a b => a.delay + Config.matchTicks < b.delay)

/-- The echo table of every path is ordered (R46). -/
def EchoTablesOrdered (s : State) : Prop := ∀ p, EchoTableOrdered (s.path p).tracker.table

/-- The scan result list has at most 64 entries in strictly ascending order of the key (R139). -/
def ScanListOrdered (s : State) : Prop :=
  s.device.scanList.length ≤ Config.scanCap ∧ s.device.scanList.Pairwise (fun a b => a.key < b.key)

/-- The invariants together. -/
def Invariants (s : State) : Prop :=
  PagesPartitioned s ∧ HoldingsMatchStates s ∧ EnablesMatchStates s ∧ QueuesWellFormed s ∧ EnableSetsLegal s ∧ EchoTablesOrdered s ∧
    ScanListOrdered s

end Sys2Proof.Machine
end

