-- ==== Sys2Proof/WellFormed.lean ====
section
/-! DEFINITION. What the spec says of a command's operands, as checks: a command outside them is one the part never meets. -/

namespace Sys2Proof

/-- LEN is 4 to 250 (R161), so at most 246 bytes follow FLAGS. -/
def Request.wf (r : Request) : Bool := r.tail.length ≤ 246

/-- A packet is 188 bytes (R89): 184 after the header. -/
def Packet.wf (p : Packet) : Bool := p.payload.length == 184

/-- The delays of one set are distinct (R50). -/
def distinctDelays : List Observation → Bool
  | [] => true
  | o :: os => os.all (fun x => x.delay != o.delay) && distinctDelays os

/-- An observation set: at most 16 observations with distinct delays (R50). -/
def wfObservations (os : List Observation) : Bool := os.length ≤ 16 && distinctDelays os

/-- A coarse-sync set is an observation set that holds the strongest arrival, at delay 0 and attenuation 0 (R47, R59). -/
def wfCoarse (os : List Observation) : Bool :=
  wfObservations os && os.any (fun o => o.delay == 0 && o.attenuation == 0#8)

/-- The operands of a command are as the spec says they are. -/
def Instr.wf : Instr → Bool
  | .powerOn _ _ => true
  | .resetPinAssert => true
  | .resetPinRelease _ _ => true
  | .frameDiscarded _ _ => true
  | .gapTimerExpiry _ => true
  | .getStatus r => r.wf
  | .setConfig r => r.wf
  | .getConfig r => r.wf
  | .tune r => r.wf
  | .stop r => r.wf
  | .scan r => r.wf
  | .ackFault r => r.wf
  | .readTable r => r.wf
  | .readCounters r => r.wf
  | .clearCounters r => r.wf
  | .maskNotices r => r.wf
  | .bind r => r.wf
  | .setUnits r => r.wf
  | .setGrants r => r.wf
  | .setReference r => r.wf
  | .setLink r => r.wf
  | .clearScan r => r.wf
  | .resetUnit r => r.wf
  | .resetDevice r => r.wf
  | .deviceResetAction => true
  | .transmitFrameEnd _ => true
  | .linkSpeedChange => true
  | .externalReturns => true
  | .externalLost => true
  | .switchTimerExpiry => true
  | .calibrationTimerExpiry _ => true
  | .gainPeriodClose _ _ _ => true
  | .impulseEventBegins _ _ => true
  | .impulseEventEnds _ => true
  | .overcurrent _ => true
  | .retryTimerExpiry _ => true
  | .tripFreeTimerExpiry _ => true
  | .symbolTimingFound _ _ _ coarse => wfCoarse coarse
  | .frameStartFound _ => true
  | .signallingRecordDecoded _ _ => true
  | .fillComplete _ => true
  | .symbolTimingLost _ => true
  | .searchTimerExpiry _ => true
  | .symbolTimerExpiry _ => true
  | .frameTimerExpiry _ => true
  | .estimate _ observed => wfObservations observed
  | .symbolClose _ _ => true
  | .holdoverTimerExpiry _ => true
  | .decodedPacket _ packet _ => packet.wf
  | .slotStart _ => true
  | .burstFormed _ _ => true
  | .refreshDue => true
  | .grantEnd => true
  | .byteArrives _ _ => true
  | .packetInProgressFinishes _ => true

end Sys2Proof
end

