-- ==== Sys2Proof/Certificates/Slice0/Obligations.lean ====
section
/-! DEFINITION. The statements for the provers. -/

open Sys2Proof Sys2Proof.Machine

/-! ### Steps and resets -/

/-- A step with a command at the front of the queue is that command on the rest. -/
def Obligations.StepRunsFrontCommand : Prop :=
  ∀ (c : Instr) (s : State) (rest : List Instr), step (s.withPending (c :: rest)) = exec c (s.withPending rest)

/-- The model's choice (log 6): with no command waiting a step is 1 ms of uptime (R186); while the RESET pin is held, nothing (R185). -/
def Obligations.EmptyQueueTicks : Prop :=
  ∀ s : State, s.pending = [] →
    step s = .next (if s.resetHeld then s else { s with device := { s.device with uptime := s.device.uptime + 1 } })

/-- No command changes the queue of commands, and every command completes. That commands come by a queue is the form of the model (log 3),
that a reset leaves the queue alone is its reading (log 10), and so is that a command which does not arise in a state completes without
effect (log 5). -/
def Obligations.CommandsCompleteAndKeepTheQueue : Prop :=
  ∀ (c : Instr) (s : State), ∃ t, exec c s = .next t ∧ t.pending = s.pending

/-- Power-on, and the RESET pin: held, the part does nothing; released, it acts as power-on (R185; what POWER_ON keeps is log 10). -/
def Obligations.PowerOnAndResetPin : Prop :=
  (∀ (f r : Bool) (s : State), exec (.powerOn f r) s =
    .next { State.powerOn f r with pending := s.pending, resetHeld := s.resetHeld, freeCount := s.freeCount }) ∧
  (∀ s : State, exec .resetPinAssert s = .next { s with resetHeld := true }) ∧
  (∀ (f r : Bool) (s : State), s.resetHeld = true → exec (.resetPinRelease f r) s =
    .next { State.powerOn f r with pending := s.pending, freeCount := s.freeCount }) ∧
  (∀ (c : Instr) (s : State), s.resetHeld = true → (∀ f r, c ≠ .powerOn f r) → (∀ f r, c ≠ .resetPinRelease f r) → exec c s = .next s)

/-- What the part holds after power-on (the tables "Values after each reset"): every value, every queue, every timer stopped. FIT and REF are the operands; State.reset takes FIT low and
no reference, the model's choice (log 1, log 2). -/
def Obligations.ValuesAfterPowerOn : Prop :=
  State.reset = State.powerOn false false ∧
  ∀ f r : Bool,
    let s := State.powerOn f r
    s.pending = [] ∧ s.resetHeld = false ∧
    (s.device.unitEnable = 0 ∧ s.device.grants = 0 ∧ s.device.reference = .internal ∧ s.device.extPresent = r ∧
      s.device.switchTimer = none ∧ s.device.scanList = [] ∧ s.device.scanNumber = 0 ∧ s.device.uptime = 0) ∧
    (∀ i, (s.input i).state = .off ∧ (s.input i).gainMode = .auto ∧ (s.input i).gain = 32 ∧ (s.input i).low = 96 ∧
      (s.input i).high = 160 ∧ (s.input i).clipLimit = 4 ∧ (s.input i).impulseThreshold = 200 ∧ (s.input i).weak = false ∧
      (s.input i).overload = false ∧ (s.input i).occupancy = 0 ∧ (s.input i).clipCount = 0 ∧ (s.input i).mast = .off ∧
      (s.input i).retries = 0 ∧ (s.input i).mastItem = false ∧ (s.input i).impulse = false ∧ (s.input i).calibrationTimer = none ∧
      (s.input i).retryTimer = none ∧ (s.input i).tripFreeTimer = none) ∧
    (∀ p, (s.path p).state = .off ∧ (s.path p).tune = none ∧ (s.path p).sig = none ∧ (s.path p).tracker = Tracker.cleared ∧
      (s.path p).quality = .none ∧ (s.path p).latched = none ∧ (s.path p).pages = [] ∧ (s.path p).staging = [] ∧
      (s.path p).discardRun = 0 ∧ (s.path p).fault = ⟨false, none, none, none⟩ ∧ (s.path p).scan = none ∧
      (s.path p).config = ⟨false, 500, 6, 120, 10, 96, 6, 4, 64, 4, false, false⟩ ∧ (s.path p).window = none ∧
      (s.path p).searchTimer = none ∧ (s.path p).symbolTimer = none ∧ (s.path p).frameTimer = none ∧ (s.path p).holdoverTimer = none ∧
      (s.path p).holdTiming = false ∧ (s.path p).frameFound = false ∧ (s.path p).symbol = .clear ∧ (s.path p).symbolAnchor = none) ∧
    (∀ o, (s.output o).state = .off ∧ (s.output o).bound = none ∧ (s.output o).policy = .mark ∧ (s.output o).queue = [] ∧
      (s.output o).rate = none ∧ (s.output o).line = none) ∧
    (∀ c, s.counter c = ⟨0, false⟩) ∧
    (s.store.fitment = (if f then 256 else 128) ∧ s.store.free = List.range s.store.fitment ∧ s.store.wait = [] ∧ s.store.alloc = 0 ∧
      s.store.service = .idle ∧ s.store.lastGranted = .p3 ∧ s.store.refreshPending = 0) ∧
    (s.link.notices = [] ∧ s.link.overrun = false ∧ s.link.cpSpeed = .b115200 ∧ s.link.speedPending = [] ∧
      s.link.resetDue = false ∧ (∀ q, s.link.rx.get q = .hunt ∧ s.link.replies.get q = [] ∧ s.link.tx.get q = none) ∧ (∀ u, s.link.enables.get u = 0x03FF)) ∧
    (∀ u, s.lastTags.get u = none)

/-- RESET_DEVICE with its reply wanted leaves the reply with the mark that the reset follows it, else the reset is due at once; and the
reset of the part, once due: every unit at its power-on values, the fitment kept, the CP speed kept or the one still pending taken, a frame
in progress sent whole at its own speed (R178, R185). Choices of the model: that the reset is a command of its own (log 11), that it keeps
the external present flag (log 2), that it leaves the queue of commands (log 10), and what becomes of frames in progress (log 29). -/
def Obligations.DeviceResetTakesEffect : Prop :=
  (∀ (s : State) (r : Request), HandsOver s .resetDevice r .device →
    (replyWanted r = true → exec (.resetDevice r) s = .next (((s.hunt r.port).tagged .device r).sendReply r.port
      { unit := r.unit, tag := r.tag, status := .ok, body := [], thenReset := true })) ∧
    (replyWanted r = false → exec (.resetDevice r) s =
      .next (((s.hunt r.port).modLink (fun l => { l with resetDue := true })).tagged .device r))) ∧
  (∀ s : State, s.resetHeld = false → s.link.resetDue = true →
    ∃ t, exec .deviceResetAction s = .next t ∧
      t.inputs = ⟨.initial, .initial⟩ ∧ t.paths = ⟨.initial, .initial, .initial, .initial⟩ ∧
      t.outputs = ⟨.initial, .initial, .initial, .initial⟩ ∧ t.store = Store.initial s.store.fitment ∧
      t.device = Device.initial s.device.extPresent ∧ t.lastTags = PerUnit.all none ∧
      t.link.notices = [] ∧ t.link.overrun = false ∧ t.link.replies = ⟨[], []⟩ ∧ t.link.rx = ⟨.hunt, .hunt⟩ ∧
      t.link.enables = PerUnit.all 0x03FF ∧ t.link.cpSpeed = s.link.storedSpeed ∧ t.link.speedPending = [] ∧
      t.link.resetDue = false ∧
      (∀ q, (t.link.tx.get q).map (fun x => (x.frame.bytes, x.speed)) = (s.link.tx.get q).map (fun x => (x.frame.bytes, x.speed))) ∧
      t.pending = s.pending ∧ t.resetHeld = false)

/-! ### Receivers and dispatch -/

/-- A receiver's table: HUNT, LENGTH, and BODY up to a bad check; a discarded frame and an expired gap timer put it in HUNT and change
nothing else (R161, R162, R165). -/
def Obligations.ReceiverFollowsItsTable : Prop :=
  ∀ (s : State) (p : Port) (b : Byte), s.resetHeld = false →
    (s.link.rx.get p = .hunt → b ≠ 0x5A → exec (.byteArrives p b) s = .next s) ∧
    (s.link.rx.get p = .hunt → b = 0x5A → exec (.byteArrives p b) s = .next (s.setReceiver p .length)) ∧
    (s.link.rx.get p = .length → 4 ≤ b.toNat → b.toNat ≤ 250 → exec (.byteArrives p b) s = .next (s.setReceiver p (.body b []))) ∧
    (s.link.rx.get p = .length → (b.toNat < 4 ∨ 250 < b.toNat) → exec (.byteArrives p b) s = .next (s.setReceiver p .hunt)) ∧
    (∀ len got, s.link.rx.get p = .body len got → got.length + 1 < len.toNat + 2 →
      exec (.byteArrives p b) s = .next (s.setReceiver p (.body len (got ++ [b])))) ∧
    (∀ len got, s.link.rx.get p = .body len got → len.toNat + 2 ≤ got.length + 1 →
      half (crc16 (len :: (got ++ [b]).take len.toNat)) ≠ (got ++ [b]).drop len.toNat →
      exec (.byteArrives p b) s = .next (s.setReceiver p .hunt)) ∧
    (s.link.rx.get p ≠ .hunt → exec (.gapTimerExpiry p) s = .next (s.setReceiver p .hunt)) ∧
    (s.link.rx.get p = .length → exec (.frameDiscarded p .lengthByte) s = .next (s.setReceiver p .hunt)) ∧
    exec (.frameDiscarded p .noStopBit) s = .next (s.setReceiver p .hunt) ∧
    (∀ len got, s.link.rx.get p = .body len got → exec (.frameDiscarded p .badCheck) s = .next (s.setReceiver p .hunt)) ∧
    (∀ len got, s.link.rx.get p = .body len got → 8 ≤ (s.link.replies.get p).length →
      exec (.frameDiscarded p .replyQueueFull) s = .next (s.setReceiver p .hunt))

/-- The bytes of a request's frame, arriving one by one at a receiver in HUNT, do what the request's command does (R161, R162, 9.3). That a
verb's command stands for its whole good frame is the model's reading (log 3), and that BYTE_ARRIVES takes the last byte too (log 4). -/
def Obligations.FrameBytesAreTheCommand : Prop :=
  ∀ (s : State) (v : Verb) (r : Request), s.resetHeld = false → s.link.rx.get r.port = .hunt → r.wf = true →
    bytesArrive r.port (requestBytes v r) s = exec (requestCommand v r) s

/-- The checks of dispatch, in their order (R165), with the tables they read: the units that take each verb and the body lengths it allows
(9.6), and the verbs the service port may use, always, with a grant, or never (R180). -/
def Obligations.DispatchChecksInOrder : Prop :=
  (∀ (s : State) (r : Request),
    (∀ verb, unitOf r.unit = none → s.dispatch verb r = .inl .unknownUnit) ∧
    ∀ u, unitOf r.unit = some u →
      s.dispatch none r = .inl .unknownVerb ∧
      ∀ v : Verb,
        (v.takenBy u = false → s.dispatch (some v) r = .inl .unknownVerb) ∧
        (v.takenBy u = true → v ≠ .getStatus → s.unitEnabled u = false → s.dispatch (some v) r = .inl .unitOff) ∧
        (v.takenBy u = true → (v = .getStatus ∨ s.unitEnabled u = true) → r.port = .sp →
          (v.access u.kind).heldBy s.device.grants = false → s.dispatch (some v) r = .inl .notGranted) ∧
        (v.takenBy u = true → (v = .getStatus ∨ s.unitEnabled u = true) →
          (r.port = .cp ∨ (v.access u.kind).heldBy s.device.grants = true) →
          (tooShortForCondition r = true ∨ v.allowsLength (bodyOf r).length = false) → s.dispatch (some v) r = .inl .badLength) ∧
        (v.takenBy u = true → (v = .getStatus ∨ s.unitEnabled u = true) →
          (r.port = .cp ∨ (v.access u.kind).heldBy s.device.grants = true) →
          tooShortForCondition r = false → v.allowsLength (bodyOf r).length = true →
          (r.tag = 0 ∨ badConditionForm v r = true) → s.dispatch (some v) r = .inl .badValue) ∧
        (ChecksPass s v r u → s.dispatch (some v) r = .inr (takenOf r u))) ∧
  (∀ b, unitOf b = [none, some .device, some (.input .a), some (.input .b), some (.path .p0), some (.path .p1), some (.path .p2),
    some (.path .p3), some (.output .o0), some (.output .o1), some (.output .o2), some (.output .o3), some .store].getD b.toNat none) ∧
  (∀ u, Verb.takenBy .getStatus u = true) ∧
  (∀ v ∈ [Verb.setConfig, .getConfig, .readCounters, .clearCounters, .resetUnit], ∀ u : UnitId,
    v.takenBy u = true ↔ u.kind ∈ [.input, .path, .output]) ∧
  (∀ v ∈ [Verb.tune, .stop, .scan, .ackFault], ∀ u : UnitId, v.takenBy u = true ↔ u.kind = .path) ∧
  (∀ u : UnitId, Verb.takenBy .readTable u = true ↔ u.kind ∈ [.path, .store, .device]) ∧
  (∀ u : UnitId, Verb.takenBy .maskNotices u = true ↔ u ≠ .store) ∧
  (∀ u : UnitId, Verb.takenBy .bind u = true ↔ u.kind = .output) ∧
  (∀ v ∈ [Verb.setUnits, .setGrants, .setReference, .setLink, .clearScan, .resetDevice], ∀ u : UnitId, v.takenBy u = true ↔ u = .device) ∧
  (∀ n, Verb.allowsLength .setConfig n = true ↔ 3 ≤ n ∧ n % 3 = 0) ∧
  (∀ v ∈ [Verb.getStatus, .getConfig, .stop, .ackFault, .clearScan, .resetUnit, .resetDevice], ∀ n, v.allowsLength n = true ↔ n = 0) ∧
  (∀ v ∈ [Verb.readCounters, .clearCounters, .bind, .setGrants, .setReference, .setLink], ∀ n, v.allowsLength n = true ↔ n = 1) ∧
  (∀ v ∈ [Verb.readTable, .setUnits], ∀ n, v.allowsLength n = true ↔ n = 2) ∧
  (∀ n, (Verb.allowsLength .maskNotices n = true ↔ n = 3) ∧ (Verb.allowsLength .scan n = true ↔ n = 4) ∧
    (Verb.allowsLength .tune n = true ↔ n = 5)) ∧
  (∀ g, (∀ v ∈ [Verb.getStatus, .getConfig, .readTable], ∀ k, (v.access k).heldBy g = true) ∧
    (∀ v ∈ [Verb.setUnits, .setGrants, .setReference, .setLink, .maskNotices, .resetDevice], ∀ k, (v.access k).heldBy g = false) ∧
    (∀ v ∈ [Verb.setConfig, .resetUnit], (v.access .input).heldBy g = g.getLsbD 0) ∧
    (∀ v ∈ [Verb.tune, .stop], (v.access .path).heldBy g = g.getLsbD 1) ∧
    (Verb.access .setConfig .path).heldBy g = g.getLsbD 2 ∧
    (∀ v ∈ [Verb.setConfig, .bind, .resetUnit], (v.access .output).heldBy g = g.getLsbD 3) ∧
    (Verb.access .scan .path).heldBy g = g.getLsbD 4 ∧ (Verb.access .clearScan .device).heldBy g = g.getLsbD 4 ∧
    (∀ k, (Verb.access .clearCounters k).heldBy g = g.getLsbD 5) ∧ (∀ k, (Verb.access .readCounters k).heldBy g = g.getLsbD 6) ∧
    (∀ v ∈ [Verb.ackFault, .resetUnit], (v.access .path).heldBy g = g.getLsbD 7))

/-- A request that dispatch refuses gets an empty reply with the status and changes nothing else; one that comes at a full reply queue is
discarded (R165, R166). -/
def Obligations.RefusedRequestChangesNothing : Prop :=
  ∀ (s : State) (v : Verb) (r : Request), s.resetHeld = false →
    (∀ st, (s.link.replies.get r.port).length < 8 → s.dispatch (some v) r = .inl st → RefusedWith v s r st) ∧
    (8 ≤ (s.link.replies.get r.port).length → exec (requestCommand v r) s = .next (s.hunt r.port))

/-! ### Requests -/

/-- GET_STATUS, GET_CONFIG, READ_TABLE and READ_COUNTERS answer with what they name and change nothing at the units (R18, R44, R116, R131,
R157, R173, R186); and the bytes of those answers: every unit's status fields, its configuration items, its tables and its counters (R72,
R134, R158, R159, R164). The encodings read from R164 are log 17, an absent field of a table header is log 26, the port of a tag
and port pair that is none is log 33. -/
def Obligations.QueriesAnswerAndChangeNothing : Prop :=
  (∀ (s : State) (r : Request) (u : UnitId),
    (HandsOver s .getStatus r u → TakenWith .getStatus s r u .ok (s.status u r.port) id) ∧
    (HandsOver s .getConfig r u → TakenWith .getConfig s r u .ok (s.configuration u) id) ∧
    (∀ tableId start body, HandsOver s .readTable r u → bodyOf r = [tableId, start] → s.table u tableId start = some body →
      TakenWith .readTable s r u .ok body id) ∧
    (∀ tableId start, HandsOver s .readTable r u → bodyOf r = [tableId, start] → s.table u tableId start = none →
      RefusedWith .readTable s r .badValue) ∧
    (∀ mask cs, HandsOver s .readCounters r u → bodyOf r = [mask] → selection (unitCounters u) mask = some cs →
      TakenWith .readCounters s r u .ok (cs.flatMap s.counterFields) id) ∧
    (∀ mask, HandsOver s .readCounters r u → bodyOf r = [mask] → selection (unitCounters u) mask = none →
      RefusedWith .readCounters s r .badValue)) ∧
  (∀ (s : State) (port : Port), s.status .device port =
    half (s.device.unitEnable ||| 0x1002) ++ [s.device.grants] ++ u8 s.device.reference.code ++ flagByte s.device.extPresent ++
      u8 s.link.cpSpeed.code ++ word s.device.uptime ++ u8 s.device.scanList.length ++ half s.device.scanNumber ++
      u8 s.link.notices.length ++ flagByte s.link.overrun ++
      listField (fun c => u8 c.unit.number ++ u8 c.number)
        (if port = .sp ∧ s.device.grants.getLsbD 6 = false then [] else s.wrapSummary) ++
      tagPair (s.lastTags.get .device)) ∧
  (∀ (s : State) (i : InputId) (port : Port), let x := s.input i
    s.status (.input i) port = u8 x.state.code ++ u8 x.gainMode.code ++ u8 x.gain ++ u8 x.occupancy ++ u16 x.clipCount ++ flagByte x.weak ++
      flagByte x.overload ++ listField (fun p => u8 (pathNumber p)) (s.attached i) ++ u8 x.mast.code ++ u8 x.retries ++
      tagPair (s.lastTags.get (.input i))) ∧
  (∀ (s : State) (p : PathId) (port : Port), let x := s.path p
    s.status (.path p) port = u8 x.state.code ++
      optionalField 10 (fun t => u8 (inputCode t.input) ++ u8 (bandCode t.band) ++ u8 t.channel ++ i16 t.offset ++ flagByte t.persist ++
        tagPair (some t.sender) ++ u8 t.attempts ++ u8 t.result.code) x.tune ++
      optionalField 16 (fun h => [h.record.symbolMode, h.record.guardFraction, h.record.constellation, h.record.codeRate] ++
        word h.record.depth ++ word h.record.streamRate ++ half h.record.cellIdentity ++ [h.record.changeCount] ++
        flagByte h.unsupported) x.sig ++
      u8 (if x.state = .pageWait then s.waitedNeed p else x.pages.length) ++ optionalField 2 i16 x.tracker.anchor ++
      flagByte x.tracker.spill ++ (match x.quality with
        | .none => [0, 0, 0]
        | .invalid => [1, 0, 0]
        | .mer n => 2 :: u16 n) ++ optionalField 4 word x.latched ++ flagByte x.fault.hold ++
      optionalField 1 (fun c => u8 c.code) x.fault.primary ++ optionalField 1 (fun c => u8 c.code) x.fault.secondary ++
      tagPair (s.lastTags.get (.path p)) ++
      optionalField 12 (fun r => u8 (inputCode r.input) ++ u8 (bandCode r.band) ++ u8 r.first ++ u8 r.last ++ tagPair (some r.sender) ++
        u8 r.current ++ u8 r.phase.code ++ u8 r.done ++ u8 r.finds ++ flagByte r.truncated ++ flagByte r.stopped) x.scan) ∧
  (∀ (s : State) (o : OutputId) (port : Port), let x := s.output o
    s.status (.output o) port = u8 x.state.code ++ optionalField 1 (fun p => u8 (pathNumber p)) x.bound ++ u8 x.policy.code ++
      u8 x.queue.length ++ optionalField 4 word x.rate ++ tagPair (s.lastTags.get (.output o))) ∧
  (∀ (s : State) (port : Port), s.status .store port =
    u16 s.store.fitment ++ u16 s.store.free.length ++ [PathId.p0, .p1, .p2, .p3].flatMap (fun p => u8 (s.path p).pages.length) ++
      listField (fun w => u8 (pathNumber w.path) ++ u8 w.need) s.store.wait ++ half s.store.alloc ++ (match s.store.service with
        | .idle => [0, 0]
        | .burst p _ _ => 1 :: u8 (pathNumber p)
        | .refresh => [2, 0]) ++ u8 (pathNumber s.store.lastGranted) ++ u8 s.store.refreshPending ++
      [PathId.p0, .p1, .p2, .p3].flatMap (fun p => u8 (s.path p).staging.length) ++
      [PathId.p0, .p1, .p2, .p3].flatMap (fun p => u8 (s.path p).discardRun) ++ tagPair (s.lastTags.get .store)) ∧
  ([PathState.off, .idle, .search, .symbol, .frame, .pageWait, .fill, .locked, .holdover, .scan, .fault, .halt].map PathState.code =
      List.range 12 ∧
    [TuneResult.pending, .locked, .noSignal, .unsupported, .superseded, .stopped].map TuneResult.code = List.range 6 ∧
    [FaultCause.unsupportedSignal, .anchorRunaway, .storeStall].map FaultCause.code = List.range 3 ∧
    [ScanPhase.search, .symbol, .frame].map ScanPhase.code = List.range 3 ∧
    [InputState.off, .calibrating, .running].map InputState.code = List.range 3 ∧
    [GainMode.auto, .manual].map GainMode.code = List.range 2 ∧
    [MastState.off, .on, .tripped, .lockout].map MastState.code = List.range 4 ∧
    [OutputState.off, .silent, .running].map OutputState.code = List.range 3 ∧ [Policy.mark, .null, .drop].map Policy.code = List.range 3 ∧
    [RefState.internal, .switching, .external, .fallback].map RefState.code = List.range 4 ∧
    [LinkSpeed.b57600, .b115200, .b230400, .b460800].map LinkSpeed.code = List.range 4 ∧
    [EchoStatus.tentative, .confirmed].map EchoStatus.code = List.range 2 ∧
    tagPair none = [0, 0] ∧ (∀ tag, tagPair (some ⟨tag, .cp⟩) = [tag, 0] ∧ tagPair (some ⟨tag, .sp⟩) = [tag, 1])) ∧
  (∀ (s : State) (i : InputId), let x := s.input i
    s.configuration (.input i) = 1 :: u16 x.gainMode.code ++ 2 :: u16 x.gain ++ 3 :: u16 x.low ++ 4 :: u16 x.high ++
      5 :: u16 x.clipLimit ++ 6 :: u16 x.impulseThreshold ++ 7 :: u16 (if x.mastItem then 1 else 0)) ∧
  (∀ (s : State) (p : PathId), let c := (s.path p).config
    s.configuration (.path p) = 1 :: u16 (if c.persist then 1 else 0) ++ 2 :: u16 c.holdoverTime ++ 3 :: u16 c.windowExp ++
      4 :: u16 c.lossThreshold ++ 5 :: u16 c.recoveryHyst ++ 6 :: u16 c.echoFloor ++ 7 :: u16 c.fadeLimit ++ 8 :: u16 c.moveThreshold ++
      9 :: u16 c.slewLimit ++ 10 :: u16 c.bias ++ 11 :: u16 ((if c.inhibitAcquiring then 1 else 0) + if c.inhibitHoldover then 2 else 0)) ∧
  (∀ (s : State) (o : OutputId), s.configuration (.output o) = 1 :: u16 (s.output o).policy.code) ∧
  (∀ (s : State) (u : UnitId) (tableId start : Byte),
    (s.table u tableId start).isSome = true ↔
      (u = .device ∧ tableId = 5) ∨ (u.kind = .path ∧ (tableId = 1 ∨ tableId = 2)) ∨ (u = .store ∧ (tableId = 3 ∨ tableId = 4))) ∧
  (∀ (s : State) (p : PathId) (start : Byte), let t := (s.path p).tracker
    s.table (.path p) 1 start = some (u8 t.table.length ++ half t.estimate ++
      u8 ((if t.anchor.isSome then 1 else 0) + (if t.spill then 2 else 0) + if t.origin.isSome then 4 else 0) ++
      (match t.anchor with
        | some a => i16 a
        | none => [0, 0]) ++ u8 t.clampedRun ++ u16 t.guardLength ++
      ((t.table.drop start.toNat).take 39).flatMap (fun e => i16 e.delay ++ u8 e.attenuation ++ u8 e.status.code ++ u8 e.hits ++ u8 e.age)) ∧
    s.table (.path p) 2 start = some (u8 (s.path p).pages.length ++ u8 (s.waitedNeed p) ++ half s.store.alloc ++
      (((s.path p).pages.drop start.toNat).take 243).flatMap u8)) ∧
  (∀ (s : State) (start : Byte),
    s.table .store 3 start = some (u16 s.store.free.length ++ half s.store.alloc ++ ((s.store.free.drop start.toNat).take 243).flatMap u8) ∧
    s.table .store 4 start = some (u16 s.store.wait.length ++ half s.store.alloc ++
      ((s.store.wait.drop start.toNat).take 121).flatMap (fun w => u8 (pathNumber w.path) ++ u8 w.need)) ∧
    s.table .device 5 start = some (u8 s.device.scanList.length ++ half s.device.scanNumber ++
      ((s.device.scanList.drop start.toNat).take 16).flatMap (fun e =>
        u8 (inputCode e.input) ++ u8 (bandCode e.band) ++ u8 e.channel ++ half e.cellIdentity ++
          [e.symbolMode, e.guardFraction, e.constellation, e.codeRate] ++ word e.streamRate ++ u8 e.gain ++ flagByte e.unsupported))) ∧
  (∀ (s : State) (c : CounterId), s.counterFields c = u8 c.number ++ word (s.counter c).value ++ flagByte (s.counter c).overflow)

/-- SET_CONFIG stores the whole of its items or none, with their effects, by kind and state of the unit (R2, R18, R42, R130, R170); what each
item stores, clamped or refused (R9, R42, R125, R170); an input's draft and its effects, and the table of MAST (R8, R9, R13, R15). That the
state is looked at before the items is the model's reading (log 31). -/
def Obligations.SetConfigStoresTheItems : Prop :=
  (∀ (s : State) (r : Request),
    (∀ i, HandsOver s .setConfig r (.input i) →
      ((s.input i).state = .calibrating → RefusedWith .setConfig s r .busy) ∧
      ((s.input i).state = .running → draftInput (s.input i) (itemsOf (bodyOf r)) = none → RefusedWith .setConfig s r .badValue) ∧
      (∀ y, (s.input i).state = .running → draftInput (s.input i) (itemsOf (bodyOf r)) = some y →
        TakenWith .setConfig s r (.input i) .ok (itemPairs (inputItem y) ((itemsOf (bodyOf r)).map Item.code))
          (fun s => s.configureInput i y (itemsOf (bodyOf r))))) ∧
    (∀ p, HandsOver s .setConfig r (.path p) →
      ((s.path p).state = .scan → RefusedWith .setConfig s r .busy) ∧
      ((s.path p).state = .halt → RefusedWith .setConfig s r .wrongState) ∧
      ((s.path p).state ≠ .scan → (s.path p).state ≠ .halt → applyItems setPathItem (s.path p).config (itemsOf (bodyOf r)) = none →
        RefusedWith .setConfig s r .badValue) ∧
      (∀ c, (s.path p).state ≠ .scan → (s.path p).state ≠ .halt →
        applyItems setPathItem (s.path p).config (itemsOf (bodyOf r)) = some c →
        TakenWith .setConfig s r (.path p) .ok (itemPairs (pathItem c) ((itemsOf (bodyOf r)).map Item.code))
          (fun s => s.modPath p (fun x => { x with
            config := c
            tune := if (itemsOf (bodyOf r)).any (fun e => e.code == 1) then x.tune.map (fun t => { t with persist := c.persist })
              else x.tune })))) ∧
    (∀ o, HandsOver s .setConfig r (.output o) →
      (applyItems setOutputItem (s.output o).policy (itemsOf (bodyOf r)) = none → RefusedWith .setConfig s r .badValue) ∧
      (∀ c, applyItems setOutputItem (s.output o).policy (itemsOf (bodyOf r)) = some c →
        TakenWith .setConfig s r (.output o) .ok (itemPairs (fun _ => c.code) ((itemsOf (bodyOf r)).map Item.code))
          (fun s => s.modOutput o (fun x => { x with policy := c }))))) ∧
  (itemsOf [] = [] ∧ ∀ c hi lo rest, itemsOf (c :: hi :: lo :: rest) = { code := c, value := half2 hi lo } :: itemsOf rest) ∧
  (∀ (x : Input) (items : List Item) (y : Input), draftInput x items = some y ↔ applyItems setInputItem x items = some y ∧
    (items.any (fun e => e.code == 2) = true → y.gainMode = .manual) ∧ y.low < y.high) ∧
  (∀ (x : Input) (v : Half), let n := v.toNat
    setInputItem x ⟨1, 0⟩ = some { x with gainMode := .auto } ∧ setInputItem x ⟨1, 1⟩ = some { x with gainMode := .manual } ∧
    (1 < n → setInputItem x ⟨1, v⟩ = none ∧ setInputItem x ⟨7, v⟩ = none) ∧
    setInputItem x ⟨2, v⟩ = some { x with gain := min 63 n } ∧ setInputItem x ⟨3, v⟩ = some { x with low := min 255 n } ∧
    setInputItem x ⟨4, v⟩ = some { x with high := min 255 n } ∧ setInputItem x ⟨5, v⟩ = some { x with clipLimit := min 255 n } ∧
    setInputItem x ⟨6, v⟩ = some { x with impulseThreshold := min 255 n } ∧
    setInputItem x ⟨7, 0⟩ = some { x with mastItem := false } ∧ setInputItem x ⟨7, 1⟩ = some { x with mastItem := true } ∧
    (∀ code : Byte, (code = 0 ∨ 7 < code.toNat) → setInputItem x ⟨code, v⟩ = none)) ∧
  (∀ (c : PathConfig) (v : Half), let n := v.toNat
    setPathItem c ⟨1, 0⟩ = some { c with persist := false } ∧ setPathItem c ⟨1, 1⟩ = some { c with persist := true } ∧
    (1 < n → setPathItem c ⟨1, v⟩ = none) ∧
    setPathItem c ⟨2, v⟩ = some { c with holdoverTime := max 50 (min 5000 n) } ∧
    setPathItem c ⟨3, v⟩ = some { c with windowExp := max 2 (min 10 n) } ∧
    setPathItem c ⟨4, v⟩ = some { c with lossThreshold := min 400 n } ∧ setPathItem c ⟨5, v⟩ = some { c with recoveryHyst := min 100 n } ∧
    setPathItem c ⟨6, v⟩ = some { c with echoFloor := max 24 (min 160 n) } ∧
    setPathItem c ⟨7, v⟩ = some { c with fadeLimit := max 1 (min 15 n) } ∧
    setPathItem c ⟨8, v⟩ = some { c with moveThreshold := min 255 n } ∧
    setPathItem c ⟨9, v⟩ = some { c with slewLimit := max 1 (min 1024 n) } ∧ setPathItem c ⟨10, v⟩ = some { c with bias := min 8 n } ∧
    (n < 4 → setPathItem c ⟨11, v⟩ = some { c with inhibitAcquiring := v.getLsbD 0, inhibitHoldover := v.getLsbD 1 }) ∧
    (4 ≤ n → setPathItem c ⟨11, v⟩ = none) ∧
    (∀ code : Byte, (code = 0 ∨ 11 < code.toNat) → setPathItem c ⟨code, v⟩ = none)) ∧
  (∀ (x : Policy) (v : Half), setOutputItem x ⟨1, 0⟩ = some .mark ∧ setOutputItem x ⟨1, 1⟩ = some .null ∧
    setOutputItem x ⟨1, 2⟩ = some .drop ∧ (2 < v.toNat → setOutputItem x ⟨1, v⟩ = none) ∧
    (∀ code : Byte, code ≠ 1 → setOutputItem x ⟨code, v⟩ = none)) ∧
  (∀ (x : Policy) (c : PathConfig) (y : Input) (e : Item) (rest : List Item),
    applyItems setOutputItem x [] = some x ∧ applyItems setPathItem c [] = some c ∧ applyItems setInputItem y [] = some y ∧
    applyItems setOutputItem x (e :: rest) = (setOutputItem x e).bind (fun x => applyItems setOutputItem x rest) ∧
    applyItems setPathItem c (e :: rest) = (setPathItem c e).bind (fun c => applyItems setPathItem c rest) ∧
    applyItems setInputItem y (e :: rest) = (setInputItem y e).bind (fun y => applyItems setInputItem y rest)) ∧
  (∀ (s : State) (i : InputId) (y : Input) (items : List Item),
    let stored := (s.modInput i (fun x => { x with
      gainMode := y.gainMode, low := y.low, high := y.high, clipLimit := y.clipLimit, impulseThreshold := y.impulseThreshold,
      impulse := x.impulse && y.impulseThreshold != 0 })).setGain i y.gain
    s.configureInput i y items = if items.any (fun e => e.code == 7) then stored.setMast i y.mastItem else stored) ∧
  (∀ (s : State) (i : InputId),
    let on := s.modInput i (fun x => { x with mastItem := true })
    let off := s.modInput i (fun x => { x with mastItem := false })
    let turnedOn := (on.modInput i (fun x => { x with mast := .on, retries := 0, retryTimer := none, tripFreeTimer := some 60000 })).raise
      (.input i) (.mastSupply (s.input i).mast .on 0)
    let turnedOff := (off.modInput i (fun x => { x with mast := .off, retries := 0, retryTimer := none, tripFreeTimer := none })).raise
      (.input i) (.mastSupply (s.input i).mast .off 0)
    ((s.input i).mast = .off ∨ (s.input i).mast = .lockout → s.setMast i true = turnedOn) ∧
    ((s.input i).mast = .on ∨ (s.input i).mast = .tripped → s.setMast i true = on) ∧
    ((s.input i).mast = .off → s.setMast i false = off) ∧ ((s.input i).mast ≠ .off → s.setMast i false = turnedOff))

/-- A TUNE that passes its checks is taken: the old tune superseded, pages and queue place given up, the record written, SEARCH entered;
and the refusals of a TUNE in their order: body values, path state, named input (R26, R27). -/
def Obligations.TuneStartsAcquisition : Prop :=
  (∀ (s : State) (r : Request) (p : PathId) (i b c hi lo : Byte) (input : InputId) (band : Band),
    HandsOver s .tune r (.path p) → bodyOf r = [i, b, c, hi, lo] → inputOf i = some input → bandOf b = some band →
    channelInBand band c.toNat = true →
    (s.path p).state ∉ [.off, .scan, .halt] → (s.input input).state ≠ .off →
    (takenOf r (.path p)).conditionHolds (s.path p) = true →
    TakenWith .tune s r (.path p) .accepted (i16 (max (-500) (min 500 (half2 hi lo).toInt)))
      (fun s => (((s.endTune p .superseded).giveUpStore p).modPath p (fun x => { x with
        tune := some { input, band, channel := c.toNat, offset := max (-500) (min 500 (half2 hi lo).toInt), persist := x.config.persist,
                       sender := { tag := r.tag, port := r.port }, attempts := 0, result := .pending }
        quality := .none })).movePath p .search .tune)) ∧
  (∀ (s : State) (r : Request) (p : PathId) (i b c hi lo : Byte), HandsOver s .tune r (.path p) → bodyOf r = [i, b, c, hi, lo] →
    (inputOf i = none → RefusedWith .tune s r .badValue) ∧
    (bandOf b = none → RefusedWith .tune s r .badValue) ∧
    (∀ band, bandOf b = some band → channelInBand band c.toNat = false → RefusedWith .tune s r .badValue) ∧
    (∀ input band, inputOf i = some input → bandOf b = some band → channelInBand band c.toNat = true →
      ((s.path p).state = .scan → RefusedWith .tune s r .busy) ∧
      ((s.path p).state = .halt → RefusedWith .tune s r .wrongState) ∧
      ((s.path p).state ∉ [.off, .scan, .halt] → (s.input input).state = .off → RefusedWith .tune s r .unitOff)))

/-- STOP by the state of the path, where its condition, if any, holds (R29); a scan that ends early raises SCAN_DONE with the record as it
stands and the stopped flag set, and the record becomes absent (R144). -/
def Obligations.StopEndsAcquisition : Prop :=
  (∀ (s : State) (r : Request) (p : PathId), HandsOver s .stop r (.path p) →
    (takenOf r (.path p)).conditionHolds (s.path p) = true →
    ((s.path p).state = .idle → TakenWith .stop s r (.path p) .ok [] id) ∧
    ((s.path p).state.attached = true → TakenWith .stop s r (.path p) .ok []
      (fun s => (((s.endTune p .stopped).stopScan p).giveUpStore p).movePath p .idle .stop)) ∧
    ((s.path p).state = .fault → RefusedWith .stop s r .wrongState) ∧
    ((s.path p).state = .halt → RefusedWith .stop s r .wrongState)) ∧
  (∀ st : PathState, st.attached = true ↔ st ∈ [.search, .symbol, .frame, .pageWait, .fill, .locked, .holdover, .scan]) ∧
  (∀ (s : State) (p : PathId), (s.path p).scan = none → s.stopScan p = s) ∧
  (∀ (s : State) (p : PathId) (record : ScanRecord), (s.path p).scan = some record →
    s.stopScan p = (s.raise (.path p) (.scanDone { record with stopped := true })).modPath p (fun x => { x with scan := none }))

/-- A SCAN taken in IDLE writes its record with the clamped end, enters SCAN and the search phase of its first channel; its body values are
checked first, and it is refused in other states (R133, R134, R136). -/
def Obligations.ScanStartsInIdle : Prop :=
  (∀ (s : State) (r : Request) (p : PathId) (i b c n : Byte) (input : InputId) (band : Band),
    HandsOver s .scan r (.path p) → bodyOf r = [i, b, c, n] → inputOf i = some input → bandOf b = some band →
    channelInBand band c.toNat = true →
    let last := min (lastChannel band) (c.toNat + min 27 n.toNat)
    ((s.path p).state = .idle → (s.input input).state ≠ .off → (takenOf r (.path p)).conditionHolds (s.path p) = true →
      TakenWith .scan s r (.path p) .accepted (u8 (last - c.toNat) ++ u8 last)
        (fun s =>
          let record : ScanRecord :=
            { input, band, first := c.toNat, last, sender := { tag := r.tag, port := r.port }, current := c.toNat, phase := .search,
              done := 0, finds := 0, truncated := false, stopped := false }
          ((s.modPath p (fun x => { x with scan := some record })).movePath p .scan .scan).modPath p (fun x => { x with
            scan := some record, searchTimer := some 300, symbolTimer := none, frameTimer := none, tracker := .cleared,
            symbol := .clear, symbolAnchor := none }))) ∧
    ((s.path p).state = .idle → (s.input input).state = .off → RefusedWith .scan s r .unitOff) ∧
    ((s.path p).state = .scan → RefusedWith .scan s r .busy) ∧
    ((s.path p).state ∉ [.off, .idle, .scan] → RefusedWith .scan s r .wrongState)) ∧
  (∀ (s : State) (r : Request) (p : PathId) (i b c n : Byte), HandsOver s .scan r (.path p) → bodyOf r = [i, b, c, n] →
    (1 < i.toNat → RefusedWith .scan s r .badValue) ∧
    (1 < b.toNat → RefusedWith .scan s r .badValue) ∧
    (b = 0 → (c.toNat < 5 ∨ 12 < c.toNat) → RefusedWith .scan s r .badValue) ∧
    (b = 1 → (c.toNat < 21 ∨ 48 < c.toNat) → RefusedWith .scan s r .badValue)) ∧
  (inputOf 0 = some .a ∧ inputOf 1 = some .b ∧ bandOf 0 = some .iii ∧ bandOf 1 = some .uhf ∧ lastChannel .iii = 12 ∧
    lastChannel .uhf = 48 ∧ (∀ c, channelInBand .iii c = true ↔ 5 ≤ c ∧ c ≤ 12) ∧ (∀ c, channelInBand .uhf c = true ↔ 21 ≤ c ∧ c ≤ 48))

/-- A TUNE, STOP or SCAN whose condition does not hold is taken, answered CONDITION_FALSE, and changes nothing but the last taken tag
(R26, R29, R133, R171, R174). What each condition says of the path (R91, R171); where a request carries its condition and its body (R163),
and when dispatch refuses the form of a condition (R165). -/
def Obligations.FalseConditionChangesNothing : Prop :=
  (∀ (s : State) (r : Request) (p : PathId), (takenOf r (.path p)).conditionHolds (s.path p) = false →
    (HandsOver s .stop r (.path p) → TakenWith .stop s r (.path p) .conditionFalse [] id) ∧
    (∀ i b c hi lo input band, HandsOver s .tune r (.path p) → bodyOf r = [i, b, c, hi, lo] → inputOf i = some input →
      bandOf b = some band → channelInBand band c.toNat = true → (s.path p).state ∉ [.off, .scan, .halt] →
      (s.input input).state ≠ .off → TakenWith .tune s r (.path p) .conditionFalse [] id) ∧
    (∀ i b c n input band, HandsOver s .scan r (.path p) → bodyOf r = [i, b, c, n] → inputOf i = some input →
      bandOf b = some band → channelInBand band c.toNat = true → (s.path p).state = .idle → (s.input input).state ≠ .off →
      TakenWith .scan s r (.path p) .conditionFalse [] id)) ∧
  (∀ (t : Taken) (x : Path), (t.condition = none → t.conditionHolds x = true) ∧
    ∀ c, t.condition = some c →
      (c.code = 1 → (t.conditionHolds x = true ↔ x.state ≠ .locked)) ∧
      (c.code = 2 → (t.conditionHolds x = true ↔
        x.quality = .none ∨ x.quality = .invalid ∨ ∃ n, x.quality = .mer n ∧ n < c.value.toNat)) ∧
      (c.code = 3 → (t.conditionHolds x = true ↔ x.tracker.spill = true)) ∧
      (c.code = 4 → (t.conditionHolds x = true ↔ x.state = .idle))) ∧
  (∀ (r : Request) (u : UnitId), (takenOf r u).condition = conditionOf r ∧ (takenOf r u).body = bodyOf r ∧
    (takenOf r u).wanted = r.flags.getLsbD 0 ∧ replyWanted r = r.flags.getLsbD 0) ∧
  (∀ r : Request, r.flags.getLsbD 1 = false → conditionOf r = none ∧ bodyOf r = r.tail) ∧
  (∀ (r : Request) (code hi lo : Byte) (body : List Byte), r.flags.getLsbD 1 = true → r.tail = code :: hi :: lo :: body →
    conditionOf r = some { code, value := half2 hi lo } ∧ bodyOf r = body ∧ (half2 hi lo).toNat = 256 * hi.toNat + lo.toNat) ∧
  (∀ r : Request, tooShortForCondition r = true ↔ r.flags.getLsbD 1 = true ∧ r.tail.length < 3) ∧
  (∀ (v : Verb) (r : Request), badConditionForm v r = true ↔
    ∃ c, conditionOf r = some c ∧ (v ∉ [.tune, .stop, .scan] ∨ c.code = 0 ∨ 4 < c.code.toNat))

/-- ACK_FAULT by the path's state and hold: PATH_STATE, SPILL and COUNTER_WRAP (bits 0, 4 and 7) return to their saved values, the other
classes keep (R152). -/
def Obligations.AckFaultClearsTheHold : Prop :=
  (∀ (s : State) (r : Request) (p : PathId), HandsOver s .ackFault r (.path p) →
    ((s.path p).state = .halt → RefusedWith .ackFault s r .wrongState) ∧
    ((s.path p).state ≠ .halt → (s.path p).state ≠ .fault → (s.path p).fault.hold = false →
      TakenWith .ackFault s r (.path p) .ok [] id) ∧
    (∀ saved, (s.path p).fault.saved = some saved →
      let cleared := fun s : State => (s.modPath p (fun x => { x with fault :=
          { x.fault with hold := false, primary := none, saved := none } })).setEnables (.path p)
            (restoreThree (s.link.enables.get (.path p)) saved)
      ((s.path p).state = .fault → TakenWith .ackFault s r (.path p) .ok [] (fun s => (cleared s).movePath p .idle .ack)) ∧
      ((s.path p).state ≠ .halt → (s.path p).state ≠ .fault → (s.path p).fault.hold = true →
        TakenWith .ackFault s r (.path p) .ok [] cleared))) ∧
  (∀ (e : Half) (v : SavedEnables) (k : Nat), (restoreThree e v).getLsbD k =
    if k = 0 then v.pathState else if k = 4 then v.spill else if k = 7 then v.counterWrap else e.getLsbD k)

/-- The counters. One step adds 1; a wrap to 0 sets the overflow flag and raises COUNTER_WRAP once until the flag is cleared; a step of a
path's counter in a state whose class is inhibited is not made; the wrap summary names exactly the counters whose flag is set, in order
(R154, R155, R156, R159). CLEAR_COUNTERS zeroes the selected counters and their flags and answers with what they were; a service port
without COUNTERS_VIEW gets their numbers alone (R158). -/
def Obligations.CountersStepWrapAndClear : Prop :=
  (∀ (s : State) (c : CounterId), (s.counter c).value ≠ 0xFFFFFFFF →
    s.count c = s.setCounter c { s.counter c with value := (s.counter c).value + 1 }) ∧
  (∀ (s : State) (c : CounterId), (s.counter c).value = 0xFFFFFFFF → (s.counter c).overflow = false →
    s.count c = (s.setCounter c ⟨0, true⟩).raise c.unit (.counterWrap c.number)) ∧
  (∀ (s : State) (c : CounterId), (s.counter c).value = 0xFFFFFFFF → (s.counter c).overflow = true →
    s.count c = s.setCounter c ⟨0, true⟩) ∧
  (∀ (s : State) (c : CounterId) (x : Counter), (s.setCounter c x).counter c = x ∧
    (∀ d, d ≠ c → (s.setCounter c x).counter d = s.counter d) ∧ (s.setCounter c x).link = s.link ∧ (s.setCounter c x).store = s.store ∧
    (s.setCounter c x).device = s.device) ∧
  (∀ (s : State) (p : PathId) (c : PathCounter),
    (((s.path p).state ∈ [.search, .symbol, .frame, .pageWait, .fill] ∧ (s.path p).config.inhibitAcquiring = true) ∨
      ((s.path p).state = .holdover ∧ (s.path p).config.inhibitHoldover = true) → s.countPath p c = s) ∧
    (((s.path p).state ∈ [.search, .symbol, .frame, .pageWait, .fill] → (s.path p).config.inhibitAcquiring = false) →
      ((s.path p).state = .holdover → (s.path p).config.inhibitHoldover = false) → s.countPath p c = s.count (.path p c))) ∧
  (∀ (s : State) (c : CounterId), c ∈ s.wrapSummary ↔ (s.counter c).overflow = true) ∧
  (∀ s : State, s.wrapSummary.Pairwise (fun a b => a.unit.number < b.unit.number ∨ (a.unit.number = b.unit.number ∧ a.number < b.number))) ∧
  (∀ p, unitCounters (.path p) = [.path p .good, .path p .corrected, .path p .failed, .path p .blanked, .path p .storeLate,
    .path p .anchorMoves]) ∧
  (∀ i, unitCounters (.input i) = [.clip i, .impulse i]) ∧ (∀ o, unitCounters (.output o) = [.fill o, .dropped o]) ∧
  (∀ u, (unitCounters u).map CounterId.number = List.range (unitCounters u).length ∧ ∀ c ∈ unitCounters u, c.unit = u) ∧
  (∀ (s : State) (r : Request) (u : UnitId) (mask : Byte), HandsOver s .clearCounters r u → bodyOf r = [mask] →
    (selection (unitCounters u) mask = none → RefusedWith .clearCounters s r .badValue) ∧
    (∀ cs, selection (unitCounters u) mask = some cs →
      TakenWith .clearCounters s r u .ok
        (if r.port = .sp ∧ s.device.grants.getLsbD 6 = false then cs.flatMap (fun c => u8 c.number) else cs.flatMap s.counterFields)
        (fun s => cs.foldl (fun s c => s.setCounter c ⟨0, false⟩) s))) ∧
  (∀ (u : UnitId) (mask : Byte),
    (mask = 0 → selection (unitCounters u) mask = some (unitCounters u)) ∧
    (2 ^ (unitCounters u).length ≤ mask.toNat → selection (unitCounters u) mask = none) ∧
    (mask ≠ 0 → mask.toNat < 2 ^ (unitCounters u).length →
      selection (unitCounters u) mask = some ((unitCounters u).filter (fun c => mask.getLsbD c.number))))

/-- MASK_NOTICES combines the set with the mask by AND, OR or XOR and answers with the set before; the ignored bits keep (R172). -/
def Obligations.MaskNoticesCombines : Prop :=
  ∀ (s : State) (r : Request) (u : UnitId) (op hi lo : Byte), HandsOver s .maskNotices r u → bodyOf r = [op, hi, lo] →
    (2 < op.toNat → RefusedWith .maskNotices s r .badValue) ∧
    (op = 0 → TakenWith .maskNotices s r u .ok (half (s.link.enables.get u))
      (fun s => s.setEnables u (s.link.enables.get u &&& (half2 hi lo ||| 0xFC0C)))) ∧
    (op = 1 → TakenWith .maskNotices s r u .ok (half (s.link.enables.get u))
      (fun s => s.setEnables u (s.link.enables.get u ||| (half2 hi lo &&& 0x03F3)))) ∧
    (op = 2 → TakenWith .maskNotices s r u .ok (half (s.link.enables.get u))
      (fun s => s.setEnables u (s.link.enables.get u ^^^ (half2 hi lo &&& 0x03F3))))

/-- BIND: the binding already held changes nothing; another one empties the queue and gives the output the path's latched rate or none
(R121). That an output which enters RUNNING by BIND with nothing on its line begins its first slot at once, as on enable, is the model's
reading (log 14). -/
def Obligations.BindSetsTheBinding : Prop :=
  ∀ (s : State) (r : Request) (o : OutputId) (b : Byte), HandsOver s .bind r (.output o) → bodyOf r = [b] →
    (bindingOf b = none → RefusedWith .bind s r .badValue) ∧
    (∀ bound, bindingOf b = some bound → (s.output o).bound = bound →
      TakenWith .bind s r (.output o) .ok (bindingFields (s.output o)) id) ∧
    (bindingOf b = some none → (s.output o).bound ≠ none →
      let x : Output := { s.output o with bound := none, queue := [], rate := none, state := .silent }
      TakenWith .bind s r (.output o) .ok (bindingFields x) (fun s => s.modOutput o (fun _ => x))) ∧
    (∀ p, bindingOf b = some (some p) → (s.output o).bound ≠ some p →
      ((s.path p).latched = none →
        let x : Output := { s.output o with bound := some p, queue := [], rate := none, state := .silent }
        TakenWith .bind s r (.output o) .ok (bindingFields x) (fun s => s.modOutput o (fun _ => x))) ∧
      (∀ rate, (s.path p).latched = some rate →
        let x : Output := { s.output o with bound := some p, queue := [], rate := some rate, state := .running }
        ((s.output o).line.isSome = true → TakenWith .bind s r (.output o) .ok (bindingFields x) (fun s => s.modOutput o (fun _ => x))) ∧
        ((s.output o).line = none → TakenWith .bind s r (.output o) .ok (bindingFields x) (fun s => (s.modOutput o (fun _ => { x with
          line := some { packet := ⟨0x47, 0x1F, 0xFF, 0x10, List.replicate 184 0xFF⟩, rate := some rate } })).count (.fill o))))) ∧
    bindingOf b = (if b.toNat < 4 then [some (some .p0), some (some .p1), some (some .p2), some (some .p3)].getD b.toNat none
      else if b = 255 then some none else none) ∧
    (∀ x : Output, bindingFields x = u8 (match x.bound with
      | some p => pathNumber p
      | none => 255) ++ u8 x.state.code ++ word (x.rate.getD 0))

/-- SET_UNITS: the new set is stored, then outputs, paths and inputs it does not name are disabled, then inputs, paths and outputs it names
are enabled, each in ascending order; what a unit does then (R1, R3, R24, R25, R39, R120, R182). That the paths of one input go to IDLE in
ascending number is the model's choice (log 9), and so is that an output with a packet still on its line would finish it before its first
slot (log 14). -/
def Obligations.SetUnitsPowersTheUnits : Prop :=
  (∀ (s : State) (r : Request) (hi lo : Byte), HandsOver s .setUnits r .device → bodyOf r = [hi, lo] →
    (half2 hi lo &&& 0xE001 ≠ 0 → RefusedWith .setUnits s r .badValue) ∧
    (half2 hi lo &&& 0xE001 = 0 → TakenWith .setUnits s r .device .ok (half (s.device.unitEnable ||| 0x1002))
      (fun s =>
        let set := half2 hi lo &&& 0x0FFC
        ((s.modDevice (fun d => { d with unitEnable := set })).powerDown set).powerUp set))) ∧
  (∀ (s : State) (set : Half), s.powerDown set =
    let outputsOff := ([OutputId.o0, .o1, .o2, .o3].filter (fun o => !set.getLsbD (UnitId.output o).number)).foldl State.disableOutput s
    let pathsOff := ([PathId.p0, .p1, .p2, .p3].filter (fun p => !set.getLsbD (UnitId.path p).number)).foldl State.disablePath outputsOff
    ([InputId.a, .b].filter (fun i => !set.getLsbD (UnitId.input i).number)).foldl State.disableInput pathsOff) ∧
  (∀ (s : State) (set : Half), s.powerUp set =
    let inputsOn := ([InputId.a, .b].filter (fun i => set.getLsbD (UnitId.input i).number)).foldl State.enableInput s
    let pathsOn := ([PathId.p0, .p1, .p2, .p3].filter (fun p => set.getLsbD (UnitId.path p).number)).foldl State.enablePath inputsOn
    ([OutputId.o0, .o1, .o2, .o3].filter (fun o => set.getLsbD (UnitId.output o).number)).foldl State.enableOutput pathsOn) ∧
  (∀ (s : State) (i : InputId), (s.input i).state = .off → s.disableInput i = s ∧
    s.enableInput i = s.modInput i (fun x => { x with state := .calibrating, calibrationTimer := some 20 })) ∧
  (∀ (s : State) (i : InputId), (s.input i).state ≠ .off → s.enableInput i = s ∧
    (let t := ((s.releaseMembers i .inputOff).mastOff i).setLevel i false false
     s.disableInput i = t.modInput i (fun x => { x with
      state := .off, calibrationTimer := none, occupancy := 0, clipCount := 0, impulse := false }))) ∧
  (∀ (s : State) (i : InputId) (reason : Reason), s.releaseMembers i reason =
    ([PathId.p0, .p1, .p2, .p3].filter (fun p => (s.path p).attachedTo == some i)).foldl (fun s p =>
      (((s.endTune p .stopped).stopScan p).giveUpStore p).movePath p .idle reason) s) ∧
  (∀ (s : State) (i : InputId), let stored := s.modInput i (fun x => { x with mastItem := false })
    ((s.input i).mast = .off → s.mastOff i = stored) ∧
    ((s.input i).mast ≠ .off → s.mastOff i = (stored.modInput i (fun x => { x with
      mast := .off, retries := 0, retryTimer := none, tripFreeTimer := none })).raise (.input i) (.mastSupply (s.input i).mast .off 0))) ∧
  (∀ (s : State) (p : PathId), (s.path p).state = .off → s.disablePath p = s ∧
    s.enablePath p = s.movePath p (if (s.path p).fault.secondary.isSome then .halt else .idle) .enabled) ∧
  (∀ (s : State) (p : PathId), (s.path p).state ≠ .off → s.enablePath p = s ∧
    s.disablePath p = (((s.endTune p .stopped).stopScan p).giveUpStore p).movePath p .off .disabled) ∧
  (∀ (s : State) (o : OutputId), (s.output o).state = .off → s.disableOutput o = s ∧
    (∀ p rate, (s.output o).bound = some p → (s.path p).latched = some rate →
      ((s.output o).line = none → s.enableOutput o = (s.modOutput o (fun x => { x with
        state := .running, queue := [], rate := some rate,
        line := some { packet := ⟨0x47, 0x1F, 0xFF, 0x10, List.replicate 184 0xFF⟩, rate := some rate } })).count (.fill o)) ∧
      ((s.output o).line.isSome = true →
        s.enableOutput o = s.modOutput o (fun x => { x with state := .running, queue := [], rate := some rate }))) ∧
    ((s.output o).bound = none → s.enableOutput o = s.modOutput o (fun x => { x with state := .silent, queue := [], rate := none })) ∧
    (∀ p, (s.output o).bound = some p → (s.path p).latched = none →
      s.enableOutput o = s.modOutput o (fun x => { x with state := .silent, queue := [], rate := none }))) ∧
  (∀ (s : State) (o : OutputId), (s.output o).state ≠ .off → s.enableOutput o = s ∧
    s.disableOutput o = s.modOutput o (fun x => { x with state := .off, queue := [], rate := none, line := none }))

/-- SET_LINK stores a speed other than the one in force behind the replies that wait, CLEAR_SCAN empties the list (R142, R160). What
SET_LINK answers beside a pending speed is the model's reading (log 13). -/
def Obligations.DeviceSettingsAreStored : Prop :=
  ∀ (s : State) (r : Request),
    (∀ b, HandsOver s .setLink r .device → bodyOf r = [b] → 3 < b.toNat → RefusedWith .setLink s r .badValue) ∧
    (∀ b speed, HandsOver s .setLink r .device → bodyOf r = [b] → speedOf b = some speed → speed = s.link.cpSpeed →
      TakenWith .setLink s r .device .ok (u8 s.link.storedSpeed.code) id) ∧
    (∀ b speed, HandsOver s .setLink r .device → bodyOf r = [b] → speedOf b = some speed → speed ≠ s.link.cpSpeed →
      TakenWith .setLink s r .device .ok (u8 speed.code) (fun s => s.modLink (fun l => { l with speedPending := l.speedPending ++
        [{ speed, ahead := l.replies.cp.length + (if replyWanted r then 1 else 0) }] }))) ∧
    (HandsOver s .clearScan r .device → s.device.scanList = [] → TakenWith .clearScan s r .device .ok [] id) ∧
    (HandsOver s .clearScan r .device → s.device.scanList ≠ [] → TakenWith .clearScan s r .device .ok []
      (fun s => s.modDevice (fun d => { d with scanList := [], scanNumber := d.scanNumber + 1 })))

/-- The grant set and SET_GRANTS: the device unit's, from the controller port alone, one byte of any pattern, replaced whole and answered
with the set before; empty after each reset; no notice; reported in the device unit's GET_STATUS (R181). -/
def Obligations.GrantSetIsReplacedWhole : Prop :=
  (∀ u, Verb.setGrants.takenBy u = true ↔ u = .device) ∧
  (∀ (s : State) (r : Request), unitOf r.unit = some .device → r.port = .sp → s.dispatch (some .setGrants) r = .inl .notGranted) ∧
  (∀ n, Verb.setGrants.allowsLength n = true ↔ n = 1) ∧
  (∀ (s : State) (r : Request) (g : Byte), HandsOver s .setGrants r .device → bodyOf r = [g] →
    TakenWith .setGrants s r .device .ok [s.device.grants] (fun s => s.modDevice (fun d => { d with grants := g }))) ∧
  (∀ s : State, s.modDevice (fun d => { d with grants := s.device.grants }) = s) ∧
  (∀ (s : State) (g : Byte), (s.modDevice (fun d => { d with grants := g })).link = s.link) ∧
  (∀ f r, (State.powerOn f r).device.grants = 0) ∧
  (∀ (s : State) (f r : Bool), s.resetHeld = true → ∃ t, exec (.resetPinRelease f r) s = .next t ∧ t.device.grants = 0) ∧
  (∀ s : State, s.resetHeld = false → s.link.resetDue = true → ∃ t, exec .deviceResetAction s = .next t ∧ t.device.grants = 0) ∧
  (∀ (s : State) (port : Port), (s.status .device port)[2]? = some s.device.grants)

/-- SET_REFERENCE by the state of the reference clock (R183). That a bad source code is refused before BUSY is the model's reading
(log 31). -/
def Obligations.SetReferenceFollowsTheTable : Prop :=
  ∀ (s : State) (r : Request) (b : Byte), HandsOver s .setReference r .device → bodyOf r = [b] →
    (1 < b.toNat → RefusedWith .setReference s r .badValue) ∧
    (b.toNat ≤ 1 → s.device.reference = .switching → RefusedWith .setReference s r .busy) ∧
    (b = 0 → s.device.reference = .internal → TakenWith .setReference s r .device .ok (u8 0) id) ∧
    (b = 0 → s.device.reference = .external → TakenWith .setReference s r .device .ok (u8 0) (fun s => s.moveReference .internal true)) ∧
    (b = 0 → s.device.reference = .fallback → TakenWith .setReference s r .device .ok (u8 0) (fun s => s.moveReference .internal false)) ∧
    (b = 1 → s.device.reference = .internal → s.device.extPresent = true →
      TakenWith .setReference s r .device .ok (u8 1) (fun s => s.moveReference .switching false)) ∧
    (b = 1 → s.device.reference = .internal → s.device.extPresent = false →
      TakenWith .setReference s r .device .ok (u8 3) (fun s => s.moveReference .fallback false)) ∧
    (b = 1 → s.device.reference = .external → TakenWith .setReference s r .device .ok (u8 2) id) ∧
    (b = 1 → s.device.reference = .fallback → TakenWith .setReference s r .device .ok (u8 3) id)

/-- RESET_UNIT of an input, a path and an output (R19, R45, R132). That the members of an input's attached-path set go to IDLE in ascending
path number is the model's choice (log 9). -/
def Obligations.ResetUnitRestoresDefaults : Prop :=
  ∀ (s : State) (r : Request),
    (∀ i, HandsOver s .resetUnit r (.input i) → TakenWith .resetUnit s r (.input i) .ok [] (fun s =>
      ((((s.releaseMembers i .inputReset).mastOff i).setEnables (.input i) 0x03FF).setLevel i false false).modInput i
        (fun _ => { Input.initial with state := .calibrating, calibrationTimer := some 20 }))) ∧
    (∀ p, HandsOver s .resetUnit r (.path p) → TakenWith .resetUnit s r (.path p) .ok [] (fun s =>
      (((((s.endTune p .stopped).stopScan p).giveUpStore p).setEnables (.path p) 0x03FF).modPath p (fun x => { x with
        fault := ⟨false, none, none, none⟩, config := .initial, counters := .zero, tracker := .cleared, tune := none, sig := none,
        latched := none, quality := .none })).movePath p .idle .unitReset)) ∧
    (∀ o, HandsOver s .resetUnit r (.output o) → TakenWith .resetUnit s r (.output o) .ok [] (fun s =>
      (s.modOutput o (fun x => { x with
        state := .silent, bound := none, policy := .mark, queue := [], rate := none, fill := ⟨0, false⟩, dropped := ⟨0, false⟩ })).setEnables
          (.output o) 0x03FF))

/-! ### Transmitters and notices -/

/-- At the end of a frame the CP transmitter takes the head reply, else the head notice, else idles; the SP transmitter its head reply; each
frame is begun at the speed then in force, 57,600 baud on the SP; a reply of a taken RESET_DEVICE makes the reset due (R160, R168, R169,
R178, R185; that the reset then is a command of its own is log 11). The bytes of the frames: replies and notices with their codes, every
class's detail, multi-byte fields most significant byte first, and the check (R41, R162 to R164, R167, R172, R178, 10.1; the detail's
encodings read from R164 are log 17, the port of a pair that is none is log 33). The bits of a frame on the line: each byte a start bit, 8
data bits least significant first, a stop bit (R160). -/
def Obligations.FrameEndTakesReplyFirst : Prop :=
  (∀ (s : State) (x : Sending), s.resetHeld = false →
    (s.link.tx.cp = some x → (∀ r, x.frame = .reply r → r.thenReset = false) → s.link.resetDue = false → s.link.speedPending = [] →
      (∀ r rest, s.link.replies.cp = r :: rest → exec (.transmitFrameEnd .cp) s =
        .next (s.modLink (fun l => { l with replies := { l.replies with cp := rest },
                                            tx := { l.tx with cp := some { frame := .reply r, speed := l.cpSpeed } } }))) ∧
      (∀ n rest, s.link.replies.cp = [] → s.link.notices = n :: rest → exec (.transmitFrameEnd .cp) s =
        .next (s.modLink (fun l => { l with
          notices := rest, overrun := false,
          tx := { l.tx with cp := some { frame := .notice { n with overrun := l.overrun }, speed := l.cpSpeed } } }))) ∧
      (s.link.replies.cp = [] → s.link.notices = [] → exec (.transmitFrameEnd .cp) s =
        .next (s.modLink (fun l => { l with tx := { l.tx with cp := none } })))) ∧
    (s.link.tx.sp = some x → (∀ r, x.frame = .reply r → r.thenReset = false) →
      (∀ r rest, s.link.replies.sp = r :: rest → exec (.transmitFrameEnd .sp) s =
        .next (s.modLink (fun l => { l with replies := { l.replies with sp := rest },
                                            tx := { l.tx with sp := some { frame := .reply r, speed := .b57600 } } }))) ∧
      (s.link.replies.sp = [] → exec (.transmitFrameEnd .sp) s = .next (s.modLink (fun l => { l with tx := { l.tx with sp := none } })))) ∧
    (∀ r, s.link.tx.cp = some x → x.frame = .reply r → r.thenReset = true → exec (.transmitFrameEnd .cp) s =
      .next (s.modLink (fun l => { l with tx := { l.tx with cp := none }, resetDue := true })))) ∧
  -- the bytes of a frame
  (∀ r : Reply,
    let spanned := u8 (3 + r.body.length) ++ [r.unit, r.tag] ++ u8 r.status.code ++ r.body
    (TxFrame.reply r).bytes = [0x5A] ++ spanned ++ half (crc16 spanned)) ∧
  (∀ n : NoticeRecord,
    let body := u8 n.detail.cls.code ++ u8 n.repeats ++ flagByte n.overrun ++ word n.timestamp ++ n.detail.bytes
    let spanned := u8 (3 + body.length) ++ u8 n.unit.number ++ [0, 0x80] ++ body
    (TxFrame.notice n).bytes = [0x5A] ++ spanned ++ half (crc16 spanned)) ∧
  (∀ bytes : List Byte, crc16 bytes = (bytes.flatMap (fun b => [7, 6, 5, 4, 3, 2, 1, 0].map (fun k => b.getLsbD k))).foldl
    (fun (crc : Half) bit => if crc.getLsbD 15 = bit then crc <<< 1 else (crc <<< 1) ^^^ 0x1021) 0xFFFF) ∧
  (∀ (n : Nat) (h : Half) (w : Word) (i : Int) (b : Bool), u8 n = [BitVec.ofNat 8 n] ∧ u16 n = u8 (n / 256) ++ u8 n ∧
    half h = u16 h.toNat ∧ word w = u16 (w.toNat / 65536) ++ u16 w.toNat ∧ i16 i = half (BitVec.ofInt 16 i) ∧
    flagByte b = u8 (if b then 1 else 0)) ∧
  ([Status.ok, .accepted, .conditionFalse, .busy, .wrongState, .unitOff, .notGranted, .unknownUnit, .unknownVerb, .badLength,
      .badValue].map Status.code = [0x00, 0x01, 0x02, 0x10, 0x11, 0x12, 0x13, 0x20, 0x21, 0x22, 0x23] ∧
    [NoticeClass.pathState, .tuneResult, .pathFault, .doubleFault, .spill, .inputLevel, .mastSupply, .counterWrap, .scanDone,
      .reference].map NoticeClass.code = List.range 10 ∧
    [Reason.enabled, .disabled, .tune, .stop, .timingFound, .frameFound, .signalling, .pages, .filled, .timing, .timeout, .resize,
      .quality, .recovered, .lost, .inputOff, .inputReset, .unitReset, .fault, .ack, .scan, .scanEnd].map Reason.code =
        (List.range 22).map (fun n => n + 1) ∧
    [UnitId.device, .input .a, .input .b, .path .p0, .path .p1, .path .p2, .path .p3, .output .o0, .output .o1, .output .o2, .output .o3,
      .store].map UnitId.number = (List.range 12).map (fun n => n + 1)) ∧
  -- the detail of each class, in the order of 10.1
  (∀ old new reason, (NoticeDetail.pathState old new reason).bytes = u8 old.code ++ u8 new.code ++ u8 reason.code) ∧
  (∀ sender result attempts, (NoticeDetail.tuneResult sender result attempts).bytes =
    tagPair (some sender) ++ u8 result.code ++ u8 attempts) ∧
  (∀ cause previous pages sender inFlight value, (NoticeDetail.pathFault cause previous pages sender inFlight value).bytes =
    u8 cause.code ++ u8 previous.code ++ u8 pages ++ tagPair sender ++ flagByte inFlight ++ word value) ∧
  (∀ primary secondary previous pages sender inFlight,
    (NoticeDetail.doubleFault (some primary) secondary previous pages sender inFlight).bytes =
      u8 primary.code ++ u8 secondary.code ++ u8 previous.code ++ u8 pages ++ tagPair sender ++ flagByte inFlight) ∧
  (∀ flag width guard anchor estimate, (NoticeDetail.spill flag width guard anchor estimate).bytes =
    flagByte flag ++ u16 width ++ u16 guard ++ (match anchor with
      | some a => i16 a
      | none => [0, 0]) ++ half estimate) ∧
  (∀ weak overload gain occupancy clips, (NoticeDetail.inputLevel weak overload gain occupancy clips).bytes =
    flagByte weak ++ flagByte overload ++ u8 gain ++ u8 occupancy ++ u16 clips) ∧
  (∀ old new retries, (NoticeDetail.mastSupply old new retries).bytes = u8 old.code ++ u8 new.code ++ u8 retries) ∧
  (∀ number, (NoticeDetail.counterWrap number).bytes = u8 number) ∧
  (∀ r : ScanRecord, (NoticeDetail.scanDone r).bytes =
    tagPair (some r.sender) ++ u8 (inputCode r.input) ++ u8 (bandCode r.band) ++ u8 r.first ++ u8 r.last ++ u8 r.done ++ u8 r.finds ++
      flagByte r.truncated ++ flagByte r.stopped) ∧
  (∀ old new step, (NoticeDetail.reference old new step).bytes = u8 old.code ++ u8 new.code ++ flagByte step) ∧
  -- the bits of a frame on the line
  (∀ b : Byte, serialByte b = [.start] ++ [0, 1, 2, 3, 4, 5, 6, 7].map (fun k => .data (b.getLsbD k)) ++ [.stop]) ∧
  (∀ (l : Link) (p : Port), (l.tx.get p = none → l.serialLine p = []) ∧
    (∀ x, l.tx.get p = some x → l.serialLine p = x.frame.bytes.flatMap serialByte)) ∧
  [LinkSpeed.b57600, .b115200, .b230400, .b460800].map LinkSpeed.baud = [57600, 115200, 230400, 460800]

/-- At its boundary a stored CP speed comes into force, the CP receiver hunts, and the next frame begins (R160). Each reply that leaves on
the CP brings every stored speed one reply nearer to its boundary; at the boundary the CP transmitter begins no frame, and before it, or with
no speed stored, or with a frame in progress, the change does nothing (R160). That the change is a command of its own, for which the
transmitter waits, is the model's choice (log 12); that it waits for a reset of the part too is log 11. -/
def Obligations.LinkSpeedChangesAtItsBoundary : Prop :=
  (∀ (s : State) (q : PendingSpeed) (rest : List PendingSpeed), s.resetHeld = false → s.link.speedPending = q :: rest →
    s.link.tx.cp = none → q.ahead = 0 →
    exec .linkSpeedChange s =
      .next (s.modLink (fun l => ({ l with cpSpeed := q.speed, speedPending := rest, rx := { l.rx with cp := .hunt } }).pumpCp))) ∧
  (∀ s : State, s.resetHeld = false →
    (s.link.tx.cp ≠ none ∨ s.link.speedPending = [] ∨ ∃ q rest, s.link.speedPending = q :: rest ∧ q.ahead ≠ 0) →
    exec .linkSpeedChange s = .next s) ∧
  (∀ l : Link, l.heldAtBoundary = true ↔ l.resetDue = true ∨ ∃ q rest, l.speedPending = q :: rest ∧ q.ahead = 0) ∧
  (∀ l : Link, (l.tx.cp ≠ none ∨ l.heldAtBoundary = true ∨ (l.replies.cp = [] ∧ l.notices = [])) → l.pumpCp = l) ∧
  (∀ (l : Link) (r : Reply) (waiting : List Reply), l.tx.cp = none → l.heldAtBoundary = false → l.replies.cp = r :: waiting →
    l.pumpCp = { l with
      replies := { l.replies with cp := waiting }, tx := { l.tx with cp := some { frame := .reply r, speed := l.cpSpeed } },
      speedPending := l.speedPending.map (fun q => { q with ahead := q.ahead - 1 }) }) ∧
  (∀ (s : State) (x : Sending) (q : PendingSpeed) (rest : List PendingSpeed), s.resetHeld = false → s.link.tx.cp = some x →
    (∀ r, x.frame = .reply r → r.thenReset = false) → s.link.resetDue = false → s.link.speedPending = q :: rest →
    (q.ahead = 0 → exec (.transmitFrameEnd .cp) s = .next (s.modLink (fun l => { l with tx := { l.tx with cp := none } }))) ∧
    (∀ r waiting, q.ahead ≠ 0 → s.link.replies.cp = r :: waiting → exec (.transmitFrameEnd .cp) s =
      .next (s.modLink (fun l => { l with
        replies := { l.replies with cp := waiting }, tx := { l.tx with cp := some { frame := .reply r, speed := l.cpSpeed } },
        speedPending := l.speedPending.map (fun q => { q with ahead := q.ahead - 1 }) }))))

/-- The overrun latch: clear after power-on; set by a discard at a full queue; written into the notice that leaves and then cleared
(R177). -/
def Obligations.OverrunLatchMarksTheNextDeparture : Prop :=
  (∀ f r, (State.powerOn f r).link.overrun = false) ∧
  (∀ (s : State) (f r : Bool), s.resetHeld = true → ∃ t, exec (.resetPinRelease f r) s = .next t ∧ t.link.overrun = false) ∧
  (∀ s : State, s.resetHeld = false → s.link.resetDue = true → ∃ t, exec .deviceResetAction s = .next t ∧ t.link.overrun = false) ∧
  (∀ (l : Link) (n : NoticeRecord), l.notices.any (fun m => m.matches n.unit n.detail.cls) = false → 32 ≤ l.notices.length →
    l.offer n = { l with overrun := true }) ∧
  (∀ (l : Link) (n : NoticeRecord), (l.notices.any (fun m => m.matches n.unit n.detail.cls) = true ∨ l.notices.length < 32) →
    (l.offer n).overrun = l.overrun) ∧
  (∀ (l : Link) (n : NoticeRecord) (rest : List NoticeRecord), l.tx.cp = none → l.heldAtBoundary = false → l.replies.cp = [] →
    l.notices = n :: rest →
    l.pumpCp = { l with
      notices := rest, overrun := false,
      tx := { l.tx with cp := some { frame := .notice { n with overrun := l.overrun }, speed := l.cpSpeed } } }) ∧
  (∀ l : Link, (l.tx.cp ≠ none ∨ l.heldAtBoundary = true ∨ l.replies.cp ≠ [] ∨ l.notices = []) → l.pumpCp.overrun = l.overrun)

/-- Raising a notice: nothing when its class is disabled, though PATH_FAULT and DOUBLE_FAULT always pass; else a record stamped with the
uptime merges with an unsent one of its unit and class or joins the tail, and an idle transmitter takes it (R175, R176). -/
def Obligations.RaisedNoticeMergesOrJoins : Prop :=
  ∀ (s : State) (u : UnitId) (d : NoticeDetail),
    (d.cls ≠ .pathFault → d.cls ≠ .doubleFault → (s.link.enables.get u).getLsbD d.cls.code = false → s.raise u d = s) ∧
    ((d.cls = .pathFault ∨ d.cls = .doubleFault ∨ (s.link.enables.get u).getLsbD d.cls.code = true) →
      s.raise u d = s.modLink (fun l =>
        (l.offer { unit := u, detail := d, repeats := 0, overrun := false, timestamp := s.device.uptime }).pumpCp)) ∧
    (∀ (l : Link) (n : NoticeRecord), l.notices.any (fun m => m.unit == n.unit && m.detail.cls == n.detail.cls) = true →
      l.offer n = { l with notices := l.notices.map (fun m => if m.unit == n.unit && m.detail.cls == n.detail.cls
        then { m with detail := n.detail, timestamp := n.timestamp, repeats := min 255 (m.repeats + 1) } else m) }) ∧
    (∀ (l : Link) (n : NoticeRecord), l.notices.any (fun m => m.unit == n.unit && m.detail.cls == n.detail.cls) = false →
      l.notices.length < 32 → l.offer n = { l with notices := l.notices ++ [n] })

/-- The events of the reference clock, by its state (R183, R184). -/
def Obligations.ReferenceEventsFollowTheTable : Prop :=
  ∀ s : State, s.resetHeld = false →
    let present := s.modDevice (fun d => { d with extPresent := true })
    let absent := s.modDevice (fun d => { d with extPresent := false })
    (s.device.reference ≠ .fallback → exec .externalReturns s = .next present) ∧
    (s.device.reference = .fallback → exec .externalReturns s =
      .next ((present.modDevice (fun d => { d with reference := .switching, switchTimer := some 10 })).raise .device
        (.reference .fallback .switching false))) ∧
    (s.device.reference = .internal ∨ s.device.reference = .fallback → exec .externalLost s = .next absent) ∧
    (s.device.reference = .switching → exec .externalLost s =
      .next ((absent.modDevice (fun d => { d with reference := .fallback, switchTimer := none })).raise .device
        (.reference .switching .fallback false))) ∧
    (s.device.reference = .external → exec .externalLost s =
      .next (((absent.modDevice (fun d => { d with reference := .fallback, switchTimer := none })).raise .device
        (.reference .external .fallback true)).referenceStep)) ∧
    (s.device.reference = .switching → s.device.switchTimer.isSome = true → exec .switchTimerExpiry s =
      .next (((s.modDevice (fun d => { d with reference := .external, switchTimer := none })).raise .device
        (.reference .switching .external true)).referenceStep)) ∧
    (∀ p, (s.referenceStep).path p = if (s.path p).state = .fill ∨ (s.path p).state = .locked ∨ (s.path p).state = .holdover
      then { s.path p with window := (s.path p).window.map (fun _ => freshWindow (s.path p).config) } else s.path p)

/-! ### Inputs -/

/-- The calibration timer's expiry starts the input. The close of a gain period: the figures stored, the gain by the mode's rule, the level
flags judged by the gain before it, CLIP; the table of the AUTO rule; a change of gain restarts the windows of the attached paths in FILL,
LOCKED or HOLDOVER; a change of the flags raises one INPUT_LEVEL (R2, R6, R7, R8, R10, R11, R12). That a clip count above 65535 counts as
65535 is log 30. -/
def Obligations.InputsCalibrateAndCloseGainPeriods : Prop :=
  (∀ (s : State) (i : InputId), s.resetHeld = false → (s.input i).state = .calibrating → (s.input i).calibrationTimer.isSome = true →
    exec (.calibrationTimerExpiry i) s = .next (s.modInput i (fun x => { x with state := .running, calibrationTimer := none }))) ∧
  (∀ (s : State) (i : InputId) (occupancy : Byte) (count : Nat), s.resetHeld = false → (s.input i).state = .running →
    let x := s.input i
    let clips := min 65535 count
    let gain := if x.gainMode = .auto then autoGain x occupancy.toNat clips (s.anyAcquiring i) else x.gain
    let stored := (s.modInput i (fun x => { x with occupancy := occupancy.toNat, clipCount := clips })).setGain i gain
    let judged := stored.setLevel i (x.gain == 63 && decide (occupancy.toNat < x.low)) (x.gain == 0 && decide (x.clipLimit < clips))
    exec (.gainPeriodClose i occupancy count) s = .next (if x.clipLimit < clips then judged.count (.clip i) else judged)) ∧
  (∀ (x : Input) (occupancy clips : Nat) (acquiring : Bool),
    (x.clipLimit < clips → autoGain x occupancy clips acquiring = x.gain - 2) ∧
    (clips ≤ x.clipLimit → acquiring = true → autoGain x occupancy clips acquiring = x.gain) ∧
    (clips ≤ x.clipLimit → acquiring = false → x.high < occupancy → autoGain x occupancy clips acquiring = x.gain - 1) ∧
    (clips ≤ x.clipLimit → acquiring = false → occupancy ≤ x.high → occupancy < x.low →
      autoGain x occupancy clips acquiring = min 63 (x.gain + 1)) ∧
    (clips ≤ x.clipLimit → acquiring = false → x.low ≤ occupancy → occupancy ≤ x.high → autoGain x occupancy clips acquiring = x.gain)) ∧
  (∀ (s : State) (i : InputId), s.anyAcquiring i = true ↔
    ∃ p, (s.path p).attachedTo = some i ∧ (s.path p).state ∈ [.search, .symbol, .frame, .scan]) ∧
  (∀ (s : State) (i : InputId), s.setGain i (s.input i).gain = s) ∧
  (∀ (s : State) (i : InputId) (g : Nat), g ≠ (s.input i).gain → let t := s.setGain i g
    t.inputs = s.inputs.set i { s.input i with gain := g } ∧
    (∀ p, t.path p = if (s.path p).attachedTo = some i ∧ (s.path p).state ∈ [.fill, .locked, .holdover]
      then { s.path p with window := (s.path p).window.map (fun _ => freshWindow (s.path p).config) } else s.path p) ∧
    t.outputs = s.outputs ∧ t.store = s.store ∧ t.link = s.link ∧ t.device = s.device) ∧
  (∀ (s : State) (i : InputId), s.setLevel i (s.input i).weak (s.input i).overload = s) ∧
  (∀ (s : State) (i : InputId) (weak overload : Bool), (weak ≠ (s.input i).weak ∨ overload ≠ (s.input i).overload) →
    s.setLevel i weak overload = (s.modInput i (fun x => { x with weak, overload })).raise (.input i)
      (.inputLevel weak overload (s.input i).gain (s.input i).occupancy (s.input i).clipCount))

/-- An impulse event begins above a threshold that is not 0, steps IMPULSE and blanks the symbols in progress of the attached paths; its end
clears it (R13, R14). That the paths are marked in ascending number, after the IMPULSE step, is the model's choice (log 9). -/
def Obligations.ImpulseBlanksTheSymbolsInProgress : Prop :=
  (∀ (s : State) (i : InputId) (m : Byte), s.resetHeld = false → (s.input i).state = .running → (s.input i).impulse = false →
    0 < (s.input i).impulseThreshold → (s.input i).impulseThreshold < m.toNat →
    exec (.impulseEventBegins i m) s =
      .next (([PathId.p0, .p1, .p2, .p3].filter (fun p => (s.path p).attachedTo == some i)).foldl State.markBlanked
        ((s.modInput i (fun x => { x with impulse := true })).count (.impulse i)))) ∧
  (∀ (s : State) (i : InputId), s.resetHeld = false →
    exec (.impulseEventEnds i) s = .next (s.modInput i (fun x => { x with impulse := false }))) ∧
  (∀ (s : State) (p : PathId), (s.path p).hasTiming = true → (s.path p).symbol.blanked = false →
    s.markBlanked p = (s.modPath p (fun x => { x with symbol := { x.symbol with blanked := true } })).countPath p .blanked) ∧
  (∀ (s : State) (p : PathId), ((s.path p).hasTiming = false ∨ (s.path p).symbol.blanked = true) → s.markBlanked p = s) ∧
  (∀ (s : State) (p : PathId), (∀ i, (s.path p).attachedTo = some i → (s.input i).impulse = false) → s.blankIfImpulse p = s) ∧
  (∀ (s : State) (p : PathId) (i : InputId), (s.path p).attachedTo = some i → (s.input i).impulse = true →
    s.blankIfImpulse p = s.markBlanked p)

/-- The mast supply's own events: an overcurrent in ON trips it or, at retry count 5, locks it out; the retry timer turns it on again; the
trip-free timer forgets the retries (R15, R16, R17). -/
def Obligations.MastSupplyRetriesAndLocksOut : Prop :=
  ∀ (s : State) (i : InputId), s.resetHeld = false →
    ((s.input i).mast = .on → (s.input i).retries < 5 → exec (.overcurrent i) s =
      .next ((s.modInput i (fun x => { x with mast := .tripped, retryTimer := some 2000, tripFreeTimer := none })).raise (.input i)
        (.mastSupply .on .tripped (s.input i).retries))) ∧
    ((s.input i).mast = .on → 5 ≤ (s.input i).retries → exec (.overcurrent i) s =
      .next ((s.modInput i (fun x => { x with mast := .lockout, retryTimer := none, tripFreeTimer := none })).raise (.input i)
        (.mastSupply .on .lockout (s.input i).retries))) ∧
    ((s.input i).mast = .tripped → (s.input i).retryTimer.isSome = true → exec (.retryTimerExpiry i) s =
      .next ((s.modInput i (fun x => { x with
        mast := .on, retries := x.retries + 1, retryTimer := none, tripFreeTimer := some 60000 })).raise (.input i)
          (.mastSupply .tripped .on ((s.input i).retries + 1)))) ∧
    ((s.input i).mast = .on → (s.input i).tripFreeTimer.isSome = true → exec (.tripFreeTimerExpiry i) s =
      .next (s.modInput i (fun x => { x with retries := 0, tripFreeTimer := none })))

/-! ### Paths -/

/-- Entering a state: the timer of the state runs and no other, the tracker is cleared in SEARCH and OFF, the signalling record in SEARCH,
the mark that a frame has been found is set in FRAME and clear in SEARCH, a window begins in FILL and LOCKED and runs in no state but those
and HOLDOVER, the marks of the symbol in progress and its anchor are kept in SYMBOL, FRAME, PAGE_WAIT, FILL, LOCKED and HOLDOVER and cleared
elsewhere, but for SYMBOL, whose first symbol starts with the anchor that stands (R66), the bound outputs' queues are emptied where the path
delivers no more; nothing else of the part changes but the link block, which is offered PATH_STATE (R30, R32, R41, R49, R77, R84, R127). -/
def Obligations.EnteringAPathState : Prop :=
  ∀ (s : State) (p : PathId) (new : PathState) (reason : Reason),
    let t := s.movePath p new reason
    SameUnits s t ∧
    (∀ q, q ≠ p → t.path q = s.path q) ∧
    (t.path p).state = new ∧
    (t.path p).searchTimer = (if new = .search then some 300 else none) ∧
    (t.path p).symbolTimer = (if new = .symbol then some 400 else none) ∧
    (t.path p).frameTimer = (if new = .frame then some 1000 else none) ∧
    (t.path p).holdoverTimer = (if new = .holdover then some (s.path p).config.holdoverTime else none) ∧
    (t.path p).tracker = (if new = .search ∨ new = .off then Tracker.cleared else (s.path p).tracker) ∧
    (t.path p).sig = (if new = .search then none else (s.path p).sig) ∧
    (t.path p).frameFound = (if new = .frame then true else if new = .search then false else (s.path p).frameFound) ∧
    (t.path p).window = (if new = .fill ∨ new = .locked then some (freshWindow (s.path p).config)
      else if new = .holdover then (s.path p).window else none) ∧
    (t.path p).symbol = (if new ∈ [.symbol, .frame, .pageWait, .fill, .locked, .holdover] then (s.path p).symbol else .clear) ∧
    (t.path p).symbolAnchor = (if new = .symbol then (s.path p).tracker.anchor
      else if new ∈ [.frame, .pageWait, .fill, .locked, .holdover] then (s.path p).symbolAnchor else none) ∧
    ((t.path p).holdTiming = (s.path p).holdTiming ∧ (t.path p).tune = (s.path p).tune ∧ (t.path p).config = (s.path p).config ∧ (t.path p).quality = (s.path p).quality ∧
      (t.path p).latched = (s.path p).latched ∧ (t.path p).pages = (s.path p).pages ∧ (t.path p).staging = (s.path p).staging ∧
      (t.path p).discardRun = (s.path p).discardRun ∧ (t.path p).fault = (s.path p).fault ∧ (t.path p).scan = (s.path p).scan ∧
      (t.path p).counters = (s.path p).counters) ∧
    (∀ o, t.output o = if (s.output o).bound = some p ∧ new ∉ [.symbol, .frame, .fill, .locked, .holdover]
      then { s.output o with queue := [] } else s.output o) ∧
    t.link = s.link.raise s.device.uptime (.path p) (.pathState (s.path p).state new reason)

/-- Symbol timing found in SEARCH: the origin fixed, the table seeded, SYMBOL entered with its timer at 400 ms, PATH_STATE raised with
reason TIMING_FOUND, the attempts count unchanged (R31, R47); and what seeding makes of the coarse-sync set: the 8 strongest of the
observations in range, CONFIRMED with 3 hits, merged, and the anchor at the target within the delay range (R59), with which the first symbol
starts (R66). A spill flag that seeding
sets is reported first (log 9); a symbol that comes into timing during an impulse event is blanked (log 21). -/
def Obligations.TimingFoundInSearchEntersSymbol : Prop :=
  (∀ (s : State) (p : PathId) (mode : SymbolMode) (fraction : GuardFraction) (coarse : List Observation), Delivering s p →
    (s.path p).state = .search →
    let seeded := s.modPath p (fun x => { x with tracker := seedTracker x.config { mode, fraction } coarse })
    let spilled := if (seeded.path p).tracker.spill then seeded.raiseSpill p else seeded
    exec (.symbolTimingFound p mode fraction coarse) s = .next ((spilled.movePath p .symbol .timingFound).blankIfImpulse p) ∧
    ((spilled.movePath p .symbol .timingFound).path p).searchTimer = none ∧
    ((spilled.movePath p .symbol .timingFound).path p).symbolTimer = some 400 ∧
    ((spilled.movePath p .symbol .timingFound).path p).tune = (s.path p).tune ∧
    ((spilled.movePath p .symbol .timingFound).path p).symbolAnchor = (seedTracker (s.path p).config { mode, fraction } coarse).anchor ∧
    ((spilled.movePath p .symbol .timingFound).path p).tracker.origin = some { mode, fraction }) ∧
  (∀ (s : State) (p : PathId), s.raiseSpill p = let t := (s.path p).tracker
    s.raise (.path p) (.spill t.spill (spread (relevantSet (s.path p).config.echoFloor t.table)).toNat t.guardLength t.anchor t.estimate)) ∧
  (∀ (cfg : PathConfig) (origin : TimingOrigin) (coarse : List Observation), let t := seedTracker cfg origin coarse
    let rel := relevantSet cfg.echoFloor t.table
    t.table = orderAndMerge ((keptAtSeeding (coarse.filter (fun o => decide (-8192 ≤ o.delay ∧ o.delay ≤ 16383)))).map (fun o =>
      { delay := o.delay, attenuation := o.attenuation.toNat, status := .confirmed, hits := 3, age := 0 })) ∧
    t.origin = some origin ∧ t.anchor = (target origin.guardLength cfg.bias rel).map (fun a => max (-8192) (min 16383 a)) ∧
    t.spill = spills origin.guardLength rel ∧ t.estimate = 0 ∧ t.clampedRun = 0) ∧
  (∀ os : List Observation, ∃ dropped, (keptAtSeeding os ++ dropped).Perm os ∧
    (keptAtSeeding os).length = min 8 os.length ∧
    ∀ a ∈ keptAtSeeding os, ∀ b ∈ dropped, a.attenuation.toNat < b.attenuation.toNat ∨ (a.attenuation = b.attenuation ∧ a.delay ≤ b.delay))

/-- Symbol timing found in HOLDOVER without timing, with the mode and guard of the held record or with others, and in the search phase of a
scan; the first symbol starts with the anchor that stands (R66, R77, R86, R135). A symbol that comes into timing during an impulse event is
blanked (log 21); a spill flag that seeding sets is reported first (log 9). That a symbol in which timing was lost and that has not closed
when HOLDOVER finds timing again is dropped with its marks, unjudged for the discard run, is the model's choice (log 34). -/
def Obligations.TimingFoundInHoldoverAndScan : Prop :=
  ∀ (s : State) (p : PathId) (mode : SymbolMode) (fraction : GuardFraction) (coarse : List Observation), Delivering s p →
    (∀ held, (s.path p).state = .holdover → (s.path p).holdTiming = false → (s.path p).sig = some held →
      held.record.symbolMode.toNat = modeCode mode → held.record.guardFraction.toNat = guardCode fraction →
      exec (.symbolTimingFound p mode fraction coarse) s = .next ((s.modPath p (fun x => { x with
        holdTiming := true, frameFound := false, window := some (freshWindow x.config), symbol := .clear,
        symbolAnchor := x.tracker.anchor })).blankIfImpulse p)) ∧
    (∀ held, (s.path p).state = .holdover → (s.path p).holdTiming = false → (s.path p).sig = some held →
      (held.record.symbolMode.toNat ≠ modeCode mode ∨ held.record.guardFraction.toNat ≠ guardCode fraction) →
      exec (.symbolTimingFound p mode fraction coarse) s = .next s) ∧
    (∀ record, (s.path p).state = .scan → (s.path p).scan = some record → record.phase = .search →
      let seeded := s.modPath p (fun x => { x with tracker := seedTracker x.config { mode, fraction } coarse })
      let spilled := if (seeded.path p).tracker.spill then seeded.raiseSpill p else seeded
      exec (.symbolTimingFound p mode fraction coarse) s = .next ((spilled.modPath p (fun x => { x with
        scan := some { record with phase := .symbol }, searchTimer := none, symbolTimer := some 400,
        symbolAnchor := x.tracker.anchor })).blankIfImpulse p))

/-- Frame start found in SYMBOL, in HOLDOVER with timing and no frame found yet, and in the symbol phase of a scan (R32, R86, R135). -/
def Obligations.FrameStartMovesOn : Prop :=
  ∀ (s : State) (p : PathId), Delivering s p →
    ((s.path p).state = .symbol → exec (.frameStartFound p) s = .next (s.movePath p .frame .frameFound)) ∧
    ((s.path p).state = .holdover → (s.path p).holdTiming = true → (s.path p).frameFound = false →
      exec (.frameStartFound p) s = .next (s.modPath p (fun x => { x with frameFound := true }))) ∧
    (∀ record, (s.path p).state = .scan → (s.path p).scan = some record → record.phase = .symbol →
      exec (.frameStartFound p) s = .next (s.modPath p (fun x => { x with
        scan := some { record with phase := .frame }, symbolTimer := none, frameTimer := some 1000 })))

/-- A supported record in FRAME is held and its pages requested: granted at once into FILL, or queued into PAGE_WAIT; in the frame phase of
a scan the record ends the channel with a find (R33, R97, R135, R137). -/
def Obligations.RecordTakenInFrame : Prop :=
  ∀ (s : State) (p : PathId) (d : SigRecord), Delivering s p →
    (let n := (d.depth.toNat + 65535) / 65536
     let held := s.modPath p (fun x => { x with sig := some { record := d, unsupported := false } })
     (s.path p).state = .frame → supportedRecord d = true →
      (s.store.wait = [] → n ≤ s.store.free.length → exec (.signallingRecordDecoded p d) s =
        .next ((held.grant p n).movePath p .fill .signalling)) ∧
      ((s.store.wait ≠ [] ∨ s.store.free.length < n) → exec (.signallingRecordDecoded p d) s =
        .next ((held.modStore (fun t => { t with wait := t.wait ++ [{ path := p, need := n }] })).movePath p .pageWait .signalling))) ∧
    (∀ record, (s.path p).state = .scan → (s.path p).scan = some record → record.phase = .frame →
      exec (.signallingRecordDecoded p d) s = .next (s.channelFind p record d))

/-- A record in PAGE_WAIT, FILL, LOCKED or HOLDOVER: without effect at an equal change count; with the same need it keeps the place in the
queue; with the same depth it restarts the window; with another depth it resizes the holding (R23, R35, R37, R103, R104; where the store's
examination raises notices of other paths too, their order is the model's choice, log 9). A path that has found no frame since it found
timing decodes no record (R21; log 19). -/
def Obligations.RecordTakenWhileWaitingOrHolding : Prop :=
  (∀ (s : State) (p : PathId) (d : SigRecord) (old : HeldRecord), Delivering s p → (s.path p).sig = some old →
    (s.path p).comparesRecords = true →
    (old.record.changeCount = d.changeCount → exec (.signallingRecordDecoded p d) s = .next s) ∧
    (let n := (d.depth.toNat + 65535) / 65536
     let held := s.modPath p (fun x => { x with sig := some { record := d, unsupported := false } })
     old.record.changeCount ≠ d.changeCount → supportedRecord d = true →
      ((s.path p).state = .pageWait → s.waitedNeed p = n → exec (.signallingRecordDecoded p d) s = .next held) ∧
      ((s.path p).state = .pageWait → s.waitedNeed p ≠ n →
        let left := held.withdraw p
        exec (.signallingRecordDecoded p d) s =
          .next (if left.store.wait = [] ∧ n ≤ left.store.free.length then (left.grant p n).movePath p .fill .pages
            else left.modStore (fun t => { t with wait := t.wait ++ [{ path := p, need := n }] }))) ∧
      ((s.path p).state ≠ .pageWait → old.record.depth = d.depth →
        exec (.signallingRecordDecoded p d) s = .next (held.modPath p Path.restartWindow)) ∧
      ((s.path p).state ≠ .pageWait → old.record.depth ≠ d.depth →
        let m := (s.path p).pages.length
        let emptied := (held.modPath p Path.restartWindow).dropStaging p
        exec (.signallingRecordDecoded p d) s =
          .next (if n = m then emptied.movePath p .fill .resize
            else if n < m then ((emptied.releasePages p n).movePath p .fill .resize).examine
            else if s.store.wait = [] ∧ n - m ≤ s.store.free.length then (emptied.grant p (n - m)).movePath p .fill .resize
            else (((emptied.releasePages p 0).modStore (fun t => { t with wait := t.wait ++ [{ path := p, need := n }] })).movePath
              p .pageWait .resize).examine)))) ∧
  (∀ x : Path, x.comparesRecords = true ↔ x.frameFound = true ∧
    (x.state = .pageWait ∨ x.state = .fill ∨ x.state = .locked ∨ (x.state = .holdover ∧ x.holdTiming = true))) ∧
  (∀ (s : State) (p : PathId) (d : SigRecord), Delivering s p → (s.path p).state ∈ [.pageWait, .fill, .locked, .holdover] →
    (s.path p).comparesRecords = false → exec (.signallingRecordDecoded p d) s = .next s)

/-- An unsupported record in FRAME, or with another change count later, is written with its mark and faults the path (R34). A fault, of any
cause: FAULT with the hold clear, HALT with it set, with the notices and the end of the tune in their order; a tune in flight ends
UNSUPPORTED for UNSUPPORTED_SIGNAL, STOPPED for ANCHOR_RUNAWAY and STORE_STALL (R145, R147, R150). -/
def Obligations.UnsupportedRecordFaultsThePath : Prop :=
  (∀ (s : State) (p : PathId) (d : SigRecord), Delivering s p → supportedRecord d = false →
    ((s.path p).state = .frame ∨ ((s.path p).comparesRecords = true ∧ (s.path p).changeCountDiffers d = true)) →
    exec (.signallingRecordDecoded p d) s =
      .next ((s.modPath p (fun x => { x with sig := some { record := d, unsupported := true } })).takeFault p .unsupportedSignal
        (d.changeCount.setWidth 32))) ∧
  (∀ (s : State) (p : PathId) (cause : FaultCause) (value : Word),
    let x := s.path p
    let sender := x.tune.map TuneRecord.sender
    let result : TuneResult := if cause = .unsupportedSignal then .unsupported else .stopped
    (x.fault.hold = false →
      let e := s.link.enables.get (.path p)
      let saved := (s.modPath p (fun x => { x with fault :=
        { x.fault with hold := true, primary := some cause, saved := some ⟨e.getLsbD 0, e.getLsbD 4, e.getLsbD 7⟩ } })).modLink (fun l =>
          { l with enables := l.enables.set (.path p) (e &&& 0xFF6E) })
      s.takeFault p cause value =
        ((((saved.giveUpStore p).enterPath p .fault).raise (.path p)
          (.pathFault cause x.state x.pages.length sender x.tuneInFlight value)).endTune p result)) ∧
    (x.fault.hold = true →
      let written := s.modPath p (fun x => { x with fault := { x.fault with secondary := some cause } })
      s.takeFault p cause value =
        (((((written.giveUpStore p).enterPath p .halt).raise (.path p)
          (.doubleFault x.fault.primary cause x.state x.pages.length sender x.tuneInFlight)).raise (.path p)
            (.pathState x.state .halt .fault)).endTune p result))) ∧
  (∀ d : SigRecord, supportedRecord d = true ↔ d.symbolMode.toNat < 3 ∧ d.guardFraction.toNat < 4 ∧ d.constellation.toNat < 4 ∧
    d.codeRate.toNat < 6 ∧ 1 ≤ d.depth.toNat ∧ d.depth.toNat ≤ 4194304 ∧ 1000000 ≤ d.streamRate.toNat ∧ d.streamRate.toNat ≤ 60000000)

/-- Fill complete: LOCKED, the rate latched and handed to the bound outputs, the tune in flight ended LOCKED, then PATH_STATE (R36, R40,
R122). A SILENT output that takes the rate begins its first slot at once, so its FILL may wrap here. That the outputs take the rate from O0
to O3 and raise their COUNTER_WRAP before the notices of the path is the model's choice (log 9); so is that a packet still on the line of a
SILENT output finishes before the first slot (log 14). -/
def Obligations.FillCompleteLocksThePath : Prop :=
  (∀ (s : State) (p : PathId) (held : HeldRecord), Delivering s p → (s.path p).state = .fill → (s.path p).sig = some held →
    let rate := held.record.streamRate
    let locked := (s.enterPath p .locked).modPath p (fun x => { x with latched := some rate })
    let given := [OutputId.o0, .o1, .o2, .o3].foldl (fun t o => t.takeRate p rate o) locked
    exec (.fillComplete p) s = .next ((given.endTune p .locked).raise (.path p) (.pathState .fill .locked .filled))) ∧
  (∀ (s : State) (p : PathId) (rate : Word) (o : OutputId),
    ((s.output o).bound ≠ some p ∨ (s.output o).state = .off → s.takeRate p rate o = s) ∧
    ((s.output o).bound = some p → (s.output o).state = .running →
      s.takeRate p rate o = s.modOutput o (fun x => { x with rate := some rate })) ∧
    ((s.output o).bound = some p → (s.output o).state = .silent → (s.output o).line = none → (s.output o).queue = [] →
      s.takeRate p rate o = (s.modOutput o (fun x => { x with
        state := .running, rate := some rate,
        line := some { packet := ⟨0x47, 0x1F, 0xFF, 0x10, List.replicate 184 0xFF⟩, rate := some rate } })).count (.fill o)) ∧
    (∀ head rest, (s.output o).bound = some p → (s.output o).state = .silent → (s.output o).line = none →
      (s.output o).queue = head :: rest → s.takeRate p rate o = s.modOutput o (fun x => { x with
        state := .running, rate := some rate, queue := rest, line := some { packet := head, rate := some rate } })) ∧
    ((s.output o).bound = some p → (s.output o).state = .silent → (s.output o).line.isSome = true →
      s.takeRate p rate o = s.modOutput o (fun x => { x with state := .running, rate := some rate }))) ∧
  (∀ (s : State) (p : PathId) (result : TuneResult),
    ((s.path p).tune = none → s.endTune p result = s) ∧
    (∀ tune, (s.path p).tune = some tune → tune.result = .pending → s.endTune p result =
      (s.modPath p (fun x => { x with tune := some { tune with result } })).raise (.path p) (.tuneResult tune.sender result tune.attempts)) ∧
    (∀ tune, (s.path p).tune = some tune → tune.result ≠ .pending → s.endTune p result = s))

/-- Symbol timing lost, by state (R38, R86, R135, R137). -/
def Obligations.TimingLostByState : Prop :=
  ∀ (s : State) (p : PathId), Delivering s p →
    ((s.path p).state = .symbol ∨ (s.path p).state = .frame → exec (.symbolTimingLost p) s = .next (s.movePath p .search .timing)) ∧
    ((s.path p).state = .pageWait → exec (.symbolTimingLost p) s = .next ((s.withdraw p).movePath p .search .timing)) ∧
    ((s.path p).state = .fill → exec (.symbolTimingLost p) s = .next ((s.releaseHolding p).movePath p .search .timing)) ∧
    ((s.path p).state = .holdover → (s.path p).holdTiming = true → exec (.symbolTimingLost p) s =
      .next (s.modPath p (fun x => { x with holdTiming := false, frameFound := false, window := none }))) ∧
    (∀ record, (s.path p).state = .scan → (s.path p).scan = some record → record.phase ≠ .search →
      exec (.symbolTimingLost p) s = .next (s.channelEmpty p record))

/-- Symbol timing lost in LOCKED: HOLDOVER for reason TIMING, the window discarded, the holdover timer started, everything else kept, and
no estimate or packet until timing is found again (R83). -/
def Obligations.TimingLostInLockedHoldsOver : Prop :=
  ∀ (s : State) (p : PathId), Delivering s p → (s.path p).state = .locked →
    ∃ t, exec (.symbolTimingLost p) s = .next t ∧
      t.link = s.link.raise s.device.uptime (.path p) (.pathState .locked .holdover .timing) ∧
      t.paths = s.paths.set p { s.path p with
        state := .holdover, searchTimer := none, symbolTimer := none, frameTimer := none,
        holdoverTimer := some (s.path p).config.holdoverTime, window := none, holdTiming := false, frameFound := false } ∧
      t.outputs = s.outputs ∧ SameUnits s t ∧
      (∀ u : State, (u.path p).state = .holdover → (u.path p).holdTiming = false →
        (∀ observed, exec (.estimate p observed) u = .next u) ∧
        (∀ packet status, exec (.decodedPacket p packet status) u = .next u))

/-- The timers of the phases: SEARCH's expiry ends the tune or, with persist, runs again; SYMBOL's and FRAME's send the path back to SEARCH;
in a scan each ends the channel empty (R30, R32, R135). -/
def Obligations.PhaseTimersExpire : Prop :=
  ∀ (s : State) (p : PathId), s.resetHeld = false →
    let stepped := s.modPath p (fun x => { x with tune := x.tune.map (fun t => { t with attempts := min 255 (t.attempts + 1) }) })
    (∀ tune, (s.path p).state = .search → (s.path p).searchTimer.isSome = true → (s.path p).tune = some tune →
      (tune.persist = true → exec (.searchTimerExpiry p) s = .next (stepped.modPath p (fun x => { x with searchTimer := some 300 }))) ∧
      (tune.persist = false → exec (.searchTimerExpiry p) s = .next ((stepped.movePath p .idle .timeout).endTune p .noSignal))) ∧
    ((s.path p).state = .symbol → (s.path p).symbolTimer.isSome = true →
      exec (.symbolTimerExpiry p) s = .next (stepped.movePath p .search .timeout)) ∧
    ((s.path p).state = .frame → (s.path p).frameTimer.isSome = true →
      exec (.frameTimerExpiry p) s = .next (stepped.movePath p .search .timeout)) ∧
    (∀ record, (s.path p).state = .scan → (s.path p).scan = some record →
      (record.phase = .search → (s.path p).searchTimer.isSome = true → exec (.searchTimerExpiry p) s = .next (s.channelEmpty p record)) ∧
      (record.phase = .symbol → (s.path p).symbolTimer.isSome = true → exec (.symbolTimerExpiry p) s = .next (s.channelEmpty p record)) ∧
      (record.phase = .frame → (s.path p).frameTimer.isSome = true → exec (.frameTimerExpiry p) s = .next (s.channelEmpty p record)))

/-- The end of a channel: the list is brought up to date, channels done steps, and the scan goes on to the next channel or ends by
completion with SCAN_DONE before PATH_STATE. A find hands over an entry built from the record with the input's gain, and steps finds or sets
the truncated flag; an empty channel removes the entry of its key (R136, R137, R139, R140, R141, R143). -/
def Obligations.ScanChannelsEnd : Prop :=
  (∀ (s : State) (p : PathId) (r : ScanRecord), r.current < r.last → s.endChannel p r =
    s.modPath p (fun x => { x with
      scan := some { r with done := r.done + 1, current := r.current + 1, phase := .search }
      searchTimer := some 300, symbolTimer := none, frameTimer := none, tracker := .cleared, symbol := .clear, symbolAnchor := none })) ∧
  (∀ (s : State) (p : PathId) (r : ScanRecord), r.current = r.last → s.endChannel p r =
    ((s.raise (.path p) (.scanDone { r with done := r.done + 1, stopped := false })).modPath p (fun x => { x with scan := none })).movePath
      p .idle .scanEnd) ∧
  (∀ (s : State) (p : PathId) (r : ScanRecord) (d : SigRecord),
    let e : ScanEntry :=
      { input := r.input, band := r.band, channel := r.current, cellIdentity := d.cellIdentity, symbolMode := d.symbolMode,
        guardFraction := d.guardFraction, constellation := d.constellation, codeRate := d.codeRate, streamRate := d.streamRate,
        gain := (s.input r.input).gain, unsupported := !supportedRecord d }
    (((∃ x ∈ s.device.scanList, x.key = e.key) ∨ s.device.scanList.length < 64) →
      s.channelFind p r d = (s.modDevice (fun t => t.find e)).endChannel p { r with finds := r.finds + 1 }) ∧
    ((∀ x ∈ s.device.scanList, x.key ≠ e.key) → 64 ≤ s.device.scanList.length →
      s.channelFind p r d = s.endChannel p { r with truncated := true })) ∧
  (∀ (s : State) (p : PathId) (r : ScanRecord), s.channelEmpty p r =
    (s.modDevice (fun t => t.removeChannel (scanKey r.input r.band r.current))).endChannel p r) ∧
  (∀ e : ScanEntry, e.key = scanKey e.input e.band e.channel) ∧
  (∀ (i j : InputId) (b c : Band) (m n : Nat), m < 1000 → n < 1000 → (scanKey i b m = scanKey j c n ↔ i = j ∧ b = c ∧ m = n)) ∧
  (∀ (d : Device) (e : ScanEntry), (∀ x ∈ d.scanList, x.key ≠ e.key) → 64 ≤ d.scanList.length → d.find e = d) ∧
  (∀ (d : Device) (e : ScanEntry), ((∃ x ∈ d.scanList, x.key = e.key) ∨ d.scanList.length < 64) →
    (d.find e).scanNumber = d.scanNumber + 1 ∧ e ∈ (d.find e).scanList ∧
    (∀ x, x.key ≠ e.key → (x ∈ (d.find e).scanList ↔ x ∈ d.scanList))) ∧
  (∀ (d : Device) (key : Nat), (∀ x ∈ d.scanList, x.key ≠ key) → d.removeChannel key = d) ∧
  (∀ (d : Device) (key : Nat), (∃ x ∈ d.scanList, x.key = key) →
    (d.removeChannel key).scanNumber = d.scanNumber + 1 ∧ (∀ x, x ∈ (d.removeChannel key).scanList ↔ x ∈ d.scanList ∧ x.key ≠ key))

/-- The holdover timer expires: the pages are released, and the path enters SEARCH with persist, else IDLE, for reason LOST (R87). -/
def Obligations.HoldoverExpiryGivesUp : Prop :=
  ∀ (s : State) (p : PathId) (tune : TuneRecord), s.resetHeld = false → (s.path p).state = .holdover →
    (s.path p).holdoverTimer.isSome = true → (s.path p).tune = some tune →
    exec (.holdoverTimerExpiry p) s = .next ((s.releaseHolding p).movePath p (if tune.persist then .search else .idle) .lost)

/-- An estimate revises table, anchor, spill flag, number and clamped run; a changed flag raises SPILL, a moved anchor steps ANCHOR_MOVES,
and the sixteenth clamped estimate in a row faults the path, but not in SCAN (R51, R65, R67, R68, R69, R71). The steps on the table: range,
match, new arrivals, displacement, ageing, promotion, order and merge (R52 to R58); the anchor's move, slew and clamp (R66, R68). The receive window of the symbol in progress is one guard length
back from the anchor it started with, and an estimate that does not fault the path leaves it as it was (R66). That SPILL
comes before the ANCHOR_MOVES step and the fault is the model's choice (log 9); a tracker without an anchor is placed as at seeding, and
its first anchor is no move (log 24). -/
def Obligations.EstimateRevisesTheTracker : Prop :=
  (∀ (s : State) (p : PathId) (observed : List Observation), Delivering s p → (s.path p).hasTiming = true →
    let x := s.path p
    let table := revisedTable x.config.fadeLimit x.tracker.table observed
    let rel := relevantSet x.config.echoFloor table
    let placed := placeAnchor x.config x.tracker.anchor (target x.tracker.guardLength x.config.bias rel)
    let run := if placed.clamped then min 16 (x.tracker.clampedRun + 1) else 0
    let revised := s.modPath p (fun x => { x with tracker := { x.tracker with
      table, anchor := placed.anchor, spill := spills x.tracker.guardLength rel, estimate := x.tracker.estimate + 1, clampedRun := run } })
    let spilled := if spills x.tracker.guardLength rel = x.tracker.spill then revised else revised.raiseSpill p
    let counted := if x.tracker.anchor.isSome = true ∧ placed.anchor ≠ x.tracker.anchor then spilled.countPath p .anchorMoves else spilled
    exec (.estimate p observed) s =
      .next (if placed.clamped = true ∧ run = 16 ∧ x.state ≠ .scan then counted.takeFault p .anchorRunaway (match placed.anchor with
        | some a => BitVec.ofInt 32 a
        | none => 0)
        else counted)) ∧
  -- the steps on the table, one after another
  (∀ (fade : Nat) (table : List EchoEntry) (observed : List Observation), revisedTable fade table observed =
    let inRange := observed.filter (fun o => decide (-8192 ≤ o.delay ∧ o.delay ≤ 16383))
    let matched := (sortObservations inRange).foldl matchOne (table.map (fun e => { start := some e.delay, touched := false, entry := e }), [])
    orderAndMerge (((matched.2.foldl insertNewcomer matched.1).filterMap (ageOne fade)).map promote)) ∧
  (∀ os, (sortObservations os).Perm os ∧ (sortObservations os).Pairwise (fun a b => a.delay ≤ b.delay)) ∧
  -- step 2: match (R53)
  (∀ (ws : List Working) (unmatched : List Observation) (o : Observation),
    (∀ w ∈ ws, ∀ x, w.start = some x → 2 < (o.delay - x).natAbs) → matchOne (ws, unmatched) o = (ws, unmatched ++ [o])) ∧
  (∀ (ws : List Working) (unmatched : List Observation) (o : Observation) (x : Int), (ws.filterMap Working.start).Pairwise (· < ·) →
    x ∈ ws.filterMap Working.start → (o.delay - x).natAbs ≤ 2 →
    (∀ y ∈ ws.filterMap Working.start, (o.delay - x).natAbs < (o.delay - y).natAbs ∨
      ((o.delay - x).natAbs = (o.delay - y).natAbs ∧ x ≤ y)) →
    matchOne (ws, unmatched) o = (ws.map (fun w => if w.start = some x ∧ w.touched = false then { w with
      touched := true, entry := { w.entry with delay := o.delay, attenuation := o.attenuation.toNat, hits := min 15 (w.entry.hits + 1),
                                               age := 0 } } else w), unmatched)) ∧
  -- step 3: new arrivals (R54) and displacement (R55)
  (∀ (ws : List Working) (o : Observation),
    let arrived : Working := { start := none, touched := true, entry :=
      { delay := o.delay, attenuation := o.attenuation.toNat, status := .tentative, hits := 1, age := 0 } }
    (ws.length < 8 → insertNewcomer ws o = ws ++ [arrived]) ∧
    (8 ≤ ws.length → (∀ w ∈ ws, w.touched = true) → insertNewcomer ws o = ws) ∧
    (∀ e, 8 ≤ ws.length → weakestUntouched ws = some e → e.attenuation ≤ o.attenuation.toNat → insertNewcomer ws o = ws) ∧
    (∀ e, 8 ≤ ws.length → weakestUntouched ws = some e → o.attenuation.toNat < e.attenuation →
      insertNewcomer ws o = ws.filter (fun w => w.touched || w.entry != e) ++ [arrived])) ∧
  (∀ ws : List Working, weakestUntouched ws = none ↔ ∀ w ∈ ws, w.touched = true) ∧
  (∀ (ws : List Working) (e : EchoEntry), weakestUntouched ws = some e → (∃ w ∈ ws, w.touched = false ∧ w.entry = e) ∧
    ∀ w ∈ ws, w.touched = false → w.entry.attenuation < e.attenuation ∨ (w.entry.attenuation = e.attenuation ∧
      ((w.entry.status = .confirmed ∧ e.status = .tentative) ∨ (w.entry.status = e.status ∧ w.entry.delay ≤ e.delay)))) ∧
  -- step 4: ageing (R56); step 5: promotion (R57)
  (∀ (fade : Nat) (w : Working), (w.touched = true → ageOne fade w = some w.entry) ∧
    (w.touched = false → fade ≤ w.entry.age + 1 → ageOne fade w = none) ∧
    (w.touched = false → w.entry.age + 1 < fade → ageOne fade w = some { w.entry with age := w.entry.age + 1 })) ∧
  (∀ e : EchoEntry, (3 ≤ e.hits → promote e = { e with status := .confirmed }) ∧ (e.hits < 3 → promote e = e)) ∧
  -- step 6: order and merge (R58)
  (∀ es : List EchoEntry, orderAndMerge es = mergeClose (sortEntries es) ∧ (sortEntries es).Perm es ∧
    (sortEntries es).Pairwise (fun a b => a.delay ≤ b.delay)) ∧
  (∀ es : List EchoEntry, es.Pairwise (fun a b => a.delay + 2 < b.delay) → mergeClose es = es) ∧
  (∀ (before after : List EchoEntry) (a b : EchoEntry), (before ++ [a]).Pairwise (fun x y => x.delay + 2 < y.delay) → a.delay ≤ b.delay →
    b.delay ≤ a.delay + 2 → mergeClose (before ++ a :: b :: after) = mergeClose (before ++ combine a b :: after)) ∧
  (∀ a b : EchoEntry, ((combine a b).status = .confirmed ↔ a.status = .confirmed ∨ b.status = .confirmed) ∧
    (combine a b).hits = max a.hits b.hits ∧ (combine a b).age = min a.age b.age ∧
    ((combine a b).delay, (combine a b).attenuation) =
      if b.attenuation < a.attenuation ∨ (a.attenuation = b.attenuation ∧ a.status = .tentative ∧ b.status = .confirmed)
      then (b.delay, b.attenuation) else (a.delay, a.attenuation)) ∧
  -- step 7: the anchor's move (R62, R66, R68)
  (∀ (cfg : PathConfig) (anchor : Option Int), placeAnchor cfg anchor none = ⟨anchor, false⟩) ∧
  (∀ (cfg : PathConfig) (t : Int), placeAnchor cfg none (some t) =
    ⟨some (max (-8192) (min 16383 t)), decide (t < -8192 ∨ 16383 < t)⟩) ∧
  (∀ (cfg : PathConfig) (a t : Int), (t - a).natAbs ≤ cfg.moveThreshold →
    placeAnchor cfg (some a) (some t) = ⟨some a, decide (t < -8192 ∨ 16383 < t)⟩) ∧
  (∀ (cfg : PathConfig) (a t : Int), cfg.moveThreshold < (t - a).natAbs →
    let moved := a + max (-(cfg.slewLimit : Int)) (min cfg.slewLimit (t - a))
    placeAnchor cfg (some a) (some t) = ⟨some (max (-8192) (min 16383 moved)),
      decide (t < -8192 ∨ 16383 < t ∨ moved < -8192 ∨ 16383 < moved)⟩) ∧
  -- the receive window of the symbol in progress (R66)
  (∀ x : Path, x.receiveWindow = x.symbolAnchor.map (fun a => (a - (x.tracker.guardLength : Int), a))) ∧
  (∀ (s t : State) (p : PathId) (observed : List Observation), exec (.estimate p observed) s = .next t →
    (t.path p).state = (s.path p).state → (t.path p).receiveWindow = (s.path p).receiveWindow)

/-- Placement: an empty relevant set gives no target; one that fits gives d_last + floor((G - spread) k / 8); one that spills gives the
smallest of the candidates with the greatest captured weight (R62, R63, R64). The relevant set: the CONFIRMED entries at or below the echo
floor, with its first and last delays and its spread (R60). The candidates d and d + G of its members, and the weight each captures: that of
the members with a - G ≤ d ≤ a (R64). -/
def Obligations.PlacementChoosesTheTarget : Prop :=
  (∀ g bias, target g bias [] = none) ∧
  (∀ (g bias : Nat) (e : EchoEntry) (es : List EchoEntry), spread (e :: es) ≤ g →
    target g bias (e :: es) = some (lastDelay (e :: es) + (((g : Int) - spread (e :: es)) * bias) / 8)) ∧
  (∀ (g bias : Nat) (e : EchoEntry) (es : List EchoEntry), (e :: es).Pairwise (fun a b => a.delay < b.delay) →
    (g : Int) < spread (e :: es) → ∃ t, target g bias (e :: es) = some t ∧ t ∈ candidates g (e :: es) ∧
      ∀ a ∈ candidates g (e :: es), capturedWeight g (e :: es) a < capturedWeight g (e :: es) t ∨
        (capturedWeight g (e :: es) a = capturedWeight g (e :: es) t ∧ t ≤ a)) ∧
  (∀ (floor : Nat) (table : List EchoEntry), (relevantSet floor table).Sublist table ∧
    ∀ e, e ∈ relevantSet floor table ↔ e ∈ table ∧ e.status = .confirmed ∧ e.attenuation ≤ floor) ∧
  (∀ rel : List EchoEntry, rel ≠ [] → rel.Pairwise (fun a b => a.delay < b.delay) →
    (∃ e ∈ rel, e.delay = firstDelay rel) ∧ (∃ e ∈ rel, e.delay = lastDelay rel) ∧
    ∀ e ∈ rel, firstDelay rel ≤ e.delay ∧ e.delay ≤ lastDelay rel) ∧
  (∀ rel : List EchoEntry, spread rel = lastDelay rel - firstDelay rel) ∧ spread [] = 0 ∧
  (∀ (g : Nat) (rel : List EchoEntry), spills g rel = true ↔ rel ≠ [] ∧ (g : Int) < spread rel) ∧
  (∀ (g : Nat) (rel : List EchoEntry) (a : Int), a ∈ candidates g rel ↔ ∃ e ∈ rel, a = e.delay ∨ a = e.delay + g) ∧
  (∀ (g : Nat) (a : Int), capturedWeight g [] a = 0 ∧ ∀ (e : EchoEntry) (es : List EchoEntry), capturedWeight g (e :: es) a =
    (if a - g ≤ e.delay ∧ e.delay ≤ a then weight e.attenuation else 0) + capturedWeight g es a)

/-- The weight of a relevant arrival is 4096 shifted right by floor(attenuation / 12), as the table of R61 lists it; a set that fits is placed
without it; a relevant entry of weight 0 stands in the set, counts toward the spread and captures nothing (R61). -/
def Obligations.WeightsFollowTheTable : Prop :=
  (∀ a : Nat, weight a = 4096 / 2 ^ (a / 12)) ∧
  (∀ a : Nat, (a ≤ 11 → weight a = 4096) ∧ (12 ≤ a → a ≤ 23 → weight a = 2048) ∧ (24 ≤ a → a ≤ 35 → weight a = 1024) ∧
    (36 ≤ a → a ≤ 47 → weight a = 512) ∧ (48 ≤ a → a ≤ 59 → weight a = 256) ∧ (60 ≤ a → a ≤ 71 → weight a = 128) ∧
    (72 ≤ a → a ≤ 83 → weight a = 64) ∧ (84 ≤ a → a ≤ 95 → weight a = 32) ∧ (96 ≤ a → a ≤ 107 → weight a = 16) ∧
    (108 ≤ a → a ≤ 119 → weight a = 8) ∧ (120 ≤ a → a ≤ 131 → weight a = 4) ∧ (132 ≤ a → a ≤ 143 → weight a = 2) ∧
    (144 ≤ a → a ≤ 155 → weight a = 1) ∧ (156 ≤ a → weight a = 0)) ∧
  (∀ a : Nat, weight (a + 12) = weight a / 2) ∧
  (∀ (g bias : Nat) (e : EchoEntry) (es : List EchoEntry), spread (e :: es) ≤ g →
    target g bias (e :: es) = some (lastDelay (e :: es) + (((g : Int) - spread (e :: es)) * bias) / 8)) ∧
  (∀ (floor : Nat) (table : List EchoEntry) (e : EchoEntry), e ∈ table → e.status = .confirmed → e.attenuation ≤ floor →
    e ∈ relevantSet floor table) ∧
  (∀ (floor : Nat) (table : List EchoEntry) (e : EchoEntry), e ∈ relevantSet floor table → weight e.attenuation = 0 → 156 ≤ floor) ∧
  (∀ (es : List EchoEntry) (e : EchoEntry), spread (es ++ [e]) = e.delay - firstDelay (es ++ [e])) ∧
  (∀ (g : Nat) (es fs : List EchoEntry) (e : EchoEntry) (a : Int), weight e.attenuation = 0 →
    capturedWeight g (es ++ e :: fs) a = capturedWeight g (es ++ fs) a)

/-- The close of a symbol in FILL, LOCKED or HOLDOVER with timing: the window takes it; the N-th ends the window, stores its result, begins
the next, and in LOCKED or HOLDOVER may move the path; then the bursts of the symbol are judged, and the eighth symbol
in a row with a discard faults a path that holds pages (R73 to R75, R81, R82, R85, R109). Where no window runs (SYMBOL, FRAME, PAGE_WAIT,
SCAN) no result arises. That the symbol then in progress is blanked when an impulse event of the input is in progress is the model's reading
(log 21), and so is that HOLDOVER without timing still judges the bursts of the symbol in which timing was lost (log 20), that BLANKED steps
after the window result and the bursts, and that a recovery hands its rate to the outputs from O0 to O3 before PATH_STATE (log 9). A window
begins with the length 2^WINDOW_EXP and nothing counted (R74); below threshold and recovered by LOSS_THRESHOLD and RECOVERY_HYST (R80); the
next symbol starts with the anchor that stands, if the path has timing (R66). -/
def Obligations.SymbolCloseFeedsTheWindow : Prop :=
  (∀ (s : State) (p : PathId) (q : Half) (w : Window), Delivering s p → (s.path p).formsBursts = true → (s.path p).window = some w →
    let x := s.path p
    let w' : Window := { w with counted := w.counted + 1,
                                unblanked := if x.symbol.blanked then w.unblanked else w.unblanked + 1,
                                sum := if x.symbol.blanked then w.sum else w.sum + q.toNat }
    let closed := fun t : State => ((t.closeBursts p).blankIfImpulse p)
    let ended := s.modPath p (fun x => { x with window := some (freshWindow x.config), quality := w'.result })
    (w.counted + 1 < w.length → exec (.symbolClose p q) s = .next (closed (s.modPath p (fun x => { x with window := some w' })))) ∧
    (w.length ≤ w.counted + 1 → x.state = .fill → exec (.symbolClose p q) s = .next (closed ended)) ∧
    (w.length ≤ w.counted + 1 → x.state = .locked → belowThreshold x.config w'.result = false →
      exec (.symbolClose p q) s = .next (closed ended)) ∧
    (w.length ≤ w.counted + 1 → x.state = .locked → belowThreshold x.config w'.result = true →
      exec (.symbolClose p q) s = .next (closed ((ended.modPath p (fun x => { x with holdTiming := true })).movePath p .holdover .quality))) ∧
    (w.length ≤ w.counted + 1 → x.state = .holdover → recovered x.config w'.result = false →
      exec (.symbolClose p q) s = .next (closed ended)) ∧
    (w.length ≤ w.counted + 1 → x.state = .holdover → recovered x.config w'.result = true →
      exec (.symbolClose p q) s = .next (closed (((ended.enterPath p .locked).latchRate p).raise (.path p)
        (.pathState .holdover .locked .recovered))))) ∧
  (∀ (s : State) (p : PathId) (q : Half), Delivering s p →
    ((s.path p).hasTiming = true → (s.path p).window = none →
      exec (.symbolClose p q) s = .next ((s.closeBursts p).blankIfImpulse p)) ∧
    ((s.path p).hasTiming = false → (s.path p).state = .holdover → exec (.symbolClose p q) s = .next (s.closeBursts p)) ∧
    ((s.path p).hasTiming = false → (s.path p).state ≠ .holdover → exec (.symbolClose p q) s = .next s)) ∧
  (∀ (s : State) (p : PathId),
    let x := s.path p
    let run := if x.symbol.writes + x.symbol.reads = 0 then x.discardRun else if x.symbol.discard then min 8 (x.discardRun + 1) else 0
    let next := s.modPath p (fun x => { x with
      symbol := .clear, symbolAnchor := if x.hasTiming then x.tracker.anchor else none, discardRun := run })
    s.closeBursts p = if x.discardRun < 8 ∧ run = 8 ∧ x.state ∈ [.fill, .locked, .holdover]
      then next.takeFault p .storeStall x.counters.storeLate.value else next) ∧
  (∀ cfg : PathConfig, freshWindow cfg = { length := 2 ^ cfg.windowExp, counted := 0, unblanked := 0, sum := 0 }) ∧
  (∀ (cfg : PathConfig) (q : Quality), (belowThreshold cfg q = true ↔ q = .invalid ∨ ∃ n, q = .mer n ∧ n < cfg.lossThreshold) ∧
    (recovered cfg q = true ↔ ∃ n, q = .mer n ∧ cfg.lossThreshold + cfg.recoveryHyst ≤ n)) ∧
  (∀ (s : State) (p : PathId) (held : HeldRecord), (s.path p).sig = some held →
    s.latchRate p = [OutputId.o0, .o1, .o2, .o3].foldl (fun t o => t.takeRate p held.record.streamRate o)
      (s.modPath p (fun x => { x with latched := some held.record.streamRate })))

/-- The result of a window: INVALID below half of its symbols unblanked; else 100 log10(65536 / m) of the mean m, rounded to the nearest
with halves up, within 0 to 400 (R75). -/
def Obligations.WindowResultIsTheRoundedRatio : Prop :=
  (∀ w : Window, 2 * w.unblanked < w.length → w.result = .invalid) ∧
  (∀ w : Window, w.length ≤ 2 * w.unblanked → w.result = .mer (merOf (w.sum / w.unblanked))) ∧
  merOf 0 = 400 ∧
  (∀ m, merOf m ≤ 400) ∧
  (∀ m k, 0 < m → 0 < k → k ≤ 400 →
    (k ≤ merOf m ↔ (k : ℝ) - 1 / 2 ≤ 100 * Real.logb 10 (65536 / (m : ℝ))))

/-! ### Outputs and the store -/

/-- A delivered packet steps the counter of its status and reaches every RUNNING output bound to the path by the output's policy; a slot
takes the head of the queue, or a null packet and FILL; its 1504 bits leave most significant bit of each byte first, valid high throughout
and sync high in the first byte, at the rate the slot began with; the end of a packet stops the line of an output that runs no more (R89,
R90, R119, R121, R123 to R126, R128). That the outputs take their copies from O0 to O3, after the path's counter, is the model's choice
(log 9). -/
def Obligations.PacketsReachTheLine : Prop :=
  (∀ (s : State) (p : PathId) (packet : Packet) (status : PacketStatus), Delivering s p → (s.path p).delivers = true →
    exec (.decodedPacket p packet status) s =
      .next ([OutputId.o0, .o1, .o2, .o3].foldl (fun s o => s.arriveAt p packet status o) (s.countPath p (match status with
        | .good => .good
        | .corrected => .corrected
        | .failed => .failed)))) ∧
  (∀ (s : State) (p : PathId) (packet : Packet) (status : PacketStatus) (o : OutputId),
    ((s.output o).bound ≠ some p ∨ (s.output o).state ≠ .running → s.arriveAt p packet status o = s) ∧
    ((s.output o).bound = some p → (s.output o).state = .running →
      (status ≠ .failed → s.arriveAt p packet status o = s.queuePacket o { packet with byte0 := 0x47 }) ∧
      (status = .failed → (s.output o).policy = .mark → s.arriveAt p packet status o =
        s.queuePacket o { packet with byte0 := 0x47, byte1 := packet.byte1 ||| 0x80 }) ∧
      (status = .failed → (s.output o).policy = .null → s.arriveAt p packet status o =
        s.queuePacket o ⟨0x47, 0x1F, 0xFF, 0x10, List.replicate 184 0xFF⟩) ∧
      (status = .failed → (s.output o).policy = .drop → s.arriveAt p packet status o = s))) ∧
  (∀ (s : State) (o : OutputId) (packet : Packet),
    ((s.output o).queue.length < 64 → s.queuePacket o packet = s.modOutput o (fun x => { x with queue := x.queue ++ [packet] })) ∧
    (64 ≤ (s.output o).queue.length → s.queuePacket o packet = s.count (.dropped o))) ∧
  (∀ (s : State) (o : OutputId), s.resetHeld = false → (s.output o).state = .running →
    (∀ head rest, (s.output o).queue = head :: rest → exec (.slotStart o) s =
      .next (s.modOutput o (fun x => { x with queue := rest, line := some { packet := head, rate := x.rate } }))) ∧
    ((s.output o).queue = [] → exec (.slotStart o) s = .next ((s.modOutput o (fun x => { x with
      line := some { packet := ⟨0x47, 0x1F, 0xFF, 0x10, List.replicate 184 0xFF⟩, rate := x.rate } })).count (.fill o)))) ∧
  (∀ (s : State) (o : OutputId), s.resetHeld = false →
    ((s.output o).state = .running → exec (.packetInProgressFinishes o) s = .next s) ∧
    ((s.output o).state ≠ .running → exec (.packetInProgressFinishes o) s = .next (s.modOutput o (fun x => { x with line := none })))) ∧
  (∀ x : Output, x.line = none → x.lineBits = [] ∧ x.clockRate = none) ∧
  (∀ (x : Output) (slot : Slot), x.line = some slot → x.clockRate = slot.rate ∧
    x.lineBits.map LineBit.data = ([slot.packet.byte0, slot.packet.byte1, slot.packet.byte2, slot.packet.byte3] ++
      slot.packet.payload).flatMap (fun b => [7, 6, 5, 4, 3, 2, 1, 0].map (fun k => b.getLsbD k)) ∧
    (∀ e ∈ x.lineBits, e.valid = true) ∧
    x.lineBits.map LineBit.sync = List.replicate 8 true ++ List.replicate (8 * (slot.packet.payload.length + 3)) false ∧
    (slot.packet.wf = true → x.lineBits.length = 1504))

/-- A burst joins its staging queue or is discarded, an idle arbiter decides at once, a refresh raises the pending count up to 8, and a
grant's end decides the next grant: an urgent refresh, the round of the paths, a pending refresh, IDLE (R106 to R108, R112 to R114). The
round begins after the last-granted path and ends with it (R113). Bursts are formed in FILL, LOCKED and HOLDOVER with timing, B in each
symbol: 2, 4 or 8 by the symbol mode of the held record, half of them writes and half reads (R106); that one formed beyond these, or in
another state, changes nothing is log 23. -/
def Obligations.BurstsAndRefreshesAreServed : Prop :=
  (∀ (s : State) (p : PathId) (dir : BurstDir), s.resetHeld = false → (s.path p).mayForm dir = true →
    let formed := s.modPath p (fun x => { x with symbol := x.symbol.formed dir })
    ((s.path p).staging.length < 8 → exec (.burstFormed p dir) s =
      .next ((formed.modPath p (fun x => { x with staging := x.staging ++ [dir] })).decideIfIdle)) ∧
    (8 ≤ (s.path p).staging.length → (s.path p).symbol.discard = true → exec (.burstFormed p dir) s = .next formed.decideIfIdle) ∧
    (8 ≤ (s.path p).staging.length → (s.path p).symbol.discard = false → exec (.burstFormed p dir) s =
      .next (((formed.modPath p (fun x => { x with symbol := { x.symbol with discard := true } })).countPath p .storeLate).decideIfIdle))) ∧
  (∀ s : State, s.resetHeld = false → exec .refreshDue s =
    .next ((s.modStore (fun t => { t with refreshPending := min 8 (t.refreshPending + 1) })).decideIfIdle)) ∧
  (∀ s : State, s.resetHeld = false → s.store.service ≠ .idle → exec .grantEnd s = .next s.decideGrant) ∧
  (∀ s : State, s.decideIfIdle = if s.store.service = .idle then s.decideGrant else s) ∧
  (∀ s : State, 4 ≤ s.store.refreshPending →
    s.decideGrant = s.modStore (fun t => { t with service := .refresh, refreshPending := t.refreshPending - 1 })) ∧
  (∀ (s : State) (p : PathId) (dir : BurstDir) (rest : List BurstDir), s.store.refreshPending < 4 →
    (roundFrom s.store.lastGranted).find? (fun p => !(s.path p).staging.isEmpty) = some p → (s.path p).staging = dir :: rest →
    s.decideGrant = (s.modPath p (fun x => { x with staging := rest })).modStore (fun t => { t with
      service := .burst p dir false, lastGranted := p })) ∧
  (∀ s : State, s.store.refreshPending < 4 → (∀ p, (s.path p).staging = []) → 0 < s.store.refreshPending →
    s.decideGrant = s.modStore (fun t => { t with service := .refresh, refreshPending := t.refreshPending - 1 })) ∧
  (∀ s : State, s.store.refreshPending = 0 → (∀ p, (s.path p).staging = []) →
    s.decideGrant = s.modStore (fun t => { t with service := .idle })) ∧
  (roundFrom .p0 = [.p1, .p2, .p3, .p0] ∧ roundFrom .p1 = [.p2, .p3, .p0, .p1] ∧ roundFrom .p2 = [.p3, .p0, .p1, .p2] ∧
    roundFrom .p3 = [.p0, .p1, .p2, .p3]) ∧
  (∀ (x : Path) (held : HeldRecord), x.sig = some held → held.record.symbolMode.toNat < 3 →
    let half := [1, 2, 4].getD held.record.symbolMode.toNat 0
    let forms := x.state = .fill ∨ x.state = .locked ∨ (x.state = .holdover ∧ x.holdTiming = true)
    (x.mayForm .write = true ↔ forms ∧ x.symbol.writes < half) ∧ (x.mayForm .read = true ↔ forms ∧ x.symbol.reads < half)) ∧
  (∀ (x : Path) (dir : BurstDir), x.sig = none → x.mayForm dir = false) ∧
  (∀ m : SymbolMarks, m.formed .write = { m with writes := m.writes + 1 } ∧ m.formed .read = { m with reads := m.reads + 1 }) ∧
  (∀ (s : State) (p : PathId) (dir : BurstDir), (s.path p).mayForm dir = false → exec (.burstFormed p dir) s = .next s)

/-- A grant moves the first pages of the free list to the tail of the path's list, a release the last pages of the path's list to the tail
of the free list, each stepping the allocation number; an examination grants heads of the queue while they fit (R98 to R100, R105). A path
gives up its whole holding, with its staging queue, and its place in the wait queue, each followed by an examination (R99, R101, R107); a
burst of it that holds the DRAM runs on with its data discarded (R115; that it carries a mark is log 28). The cells of a period lie in the
pages in list order, the first 65,536 in the first page (R95); which cell of its page each takes is the model's choice (log 32). -/
def Obligations.PagesMoveInOrder : Prop :=
  (∀ (s : State) (p : PathId) (n : Nat), let t := s.grant p n
    (t.path p).pages = (s.path p).pages ++ s.store.free.take n ∧ t.store.free = s.store.free.drop n ∧
    t.store.alloc = s.store.alloc + 1 ∧ (∀ q, q ≠ p → t.path q = s.path q) ∧ t.link = s.link ∧ t.outputs = s.outputs) ∧
  (∀ (s : State) (p : PathId) (n : Nat), let t := s.releasePages p n
    (t.path p).pages = (s.path p).pages.take n ∧ t.store.free = s.store.free ++ (s.path p).pages.drop n ∧
    t.store.alloc = s.store.alloc + 1 ∧ (∀ q, q ≠ p → t.path q = s.path q) ∧ t.link = s.link ∧ t.outputs = s.outputs) ∧
  (∀ s : State, s.store.wait = [] → s.examine = s) ∧
  (∀ (s : State) (w : Waiting) (rest : List Waiting), s.store.wait = w :: rest → s.store.free.length < w.need → s.examine = s) ∧
  (∀ (s : State) (w : Waiting) (rest : List Waiting), s.store.wait = w :: rest → w.need ≤ s.store.free.length →
    s.examine = (((s.modStore (fun t => { t with wait := rest })).grant w.path w.need).movePath w.path .fill .pages).examine) ∧
  (∀ (s : State) (p : PathId), s.giveUpStore p = (s.releaseHolding p).withdraw p) ∧
  (∀ (s : State) (p : PathId), ((s.path p).pages = [] → s.releaseHolding p = s) ∧
    ((s.path p).pages ≠ [] → s.releaseHolding p = ((s.releasePages p 0).dropStaging p).examine)) ∧
  (∀ (s : State) (p : PathId), ((∀ w ∈ s.store.wait, w.path ≠ p) → s.withdraw p = s) ∧
    ((∃ w ∈ s.store.wait, w.path = p) → s.withdraw p =
      (s.modStore (fun t => { t with wait := t.wait.filter (fun w => w.path != p) })).examine)) ∧
  (∀ (s : State) (p : PathId), s.dropStaging p = (s.modPath p (fun x => { x with
    staging := [], discardRun := 0, symbol := { x.symbol with discard := false } })).modStore (fun t => { t with
      service := match t.service with
        | .idle => .idle
        | .refresh => .refresh
        | .burst q dir stale => .burst q dir (stale || q == p) })) ∧
  (∀ (x : Path) (cell : Nat), (cell < 65536 * x.pages.length → ∃ page, x.pages[cell / 65536]? = some page ∧
      x.cellPlace cell = some (page, cell % 65536)) ∧
    (65536 * x.pages.length ≤ cell → x.cellPlace cell = none)) ∧
  (∀ (x : Path) (page cell : Nat) (rest : List Nat), x.pages = page :: rest → cell < 65536 → x.cellPlace cell = some (page, cell))

/-! ### Invariants -/

/-- Every step keeps the pages partitioned among the free list and the paths (R93). -/
def Obligations.StepKeepsPagesPartitioned : Prop :=
  ∀ s t : State, PagesPartitioned s → step s = .next t → PagesPartitioned t

/-- Every step keeps the wait queue and the page lists in accord with the paths' states (R20, R96). -/
def Obligations.StepKeepsHoldingsMatchingStates : Prop :=
  ∀ s t : State, HoldingsMatchStates s → step s = .next t → HoldingsMatchStates t

/-- Every step keeps the unit-enable set in accord with the units that are OFF (R182). -/
def Obligations.StepKeepsEnablesMatchingStates : Prop :=
  ∀ s t : State, HoldingsMatchStates s → EnablesMatchStates s → step s = .next t → EnablesMatchStates t

/-- Every step keeps the notice and reply queues within their bounds, without two unsent notices of one unit and class, and the unmaskable
classes enabled (R168, R172, R176). -/
def Obligations.StepKeepsTheLinkWellFormed : Prop :=
  ∀ s t : State, QueuesWellFormed s → EnableSetsLegal s → step s = .next t → QueuesWellFormed t ∧ EnableSetsLegal t

/-- Every step keeps the echo tables and the scan result list ordered and within their bounds (R46, R58, R139). -/
def Obligations.StepKeepsTheTablesOrdered : Prop :=
  ∀ s t : State, EchoTablesOrdered s → ScanListOrdered s → step s = .next t → EchoTablesOrdered t ∧ ScanListOrdered t

/-- The part after power-on has every invariant. -/
def Obligations.PowerOnHasTheInvariants : Prop := ∀ f r : Bool, Invariants (State.powerOn f r)
end

