-- ==== Sys2Proof/Laws/State.lean ====
section
/-! SUPPORT. One lemma per field and update of the state, each true by definition, and reading back what was written. -/

namespace Sys2Proof.Machine

open Sys2Proof

/-! ### Reading back -/

@[simp] theorem Ports.get_set {α : Type} (t : Ports α) (p : Port) (x : α) : (t.set p x).get p = x := by cases p <;> rfl

theorem Ports.get_set_ne {α : Type} (t : Ports α) {p q : Port} (x : α) (h : q ≠ p) : (t.set p x).get q = t.get q := by
  cases p <;> cases q <;> first | rfl | exact absurd rfl h

@[simp] theorem Inputs.get_set (t : Inputs) (i : InputId) (x : Input) : (t.set i x).get i = x := by cases i <;> rfl

theorem Inputs.get_set_ne (t : Inputs) {i j : InputId} (x : Input) (h : j ≠ i) : (t.set i x).get j = t.get j := by
  cases i <;> cases j <;> first | rfl | exact absurd rfl h

@[simp] theorem Inputs.set_set (t : Inputs) (i : InputId) (x y : Input) : (t.set i x).set i y = t.set i y := by cases i <;> rfl

@[simp] theorem Inputs.set_get (t : Inputs) (i : InputId) : t.set i (t.get i) = t := by cases i <;> rfl

@[simp] theorem Paths.get_set (t : Paths) (p : PathId) (x : Path) : (t.set p x).get p = x := by cases p <;> rfl

theorem Paths.get_set_ne (t : Paths) {p q : PathId} (x : Path) (h : q ≠ p) : (t.set p x).get q = t.get q := by
  cases p <;> cases q <;> first | rfl | exact absurd rfl h

@[simp] theorem Paths.set_set (t : Paths) (p : PathId) (x y : Path) : (t.set p x).set p y = t.set p y := by cases p <;> rfl

@[simp] theorem Paths.set_get (t : Paths) (p : PathId) : t.set p (t.get p) = t := by cases p <;> rfl

@[simp] theorem Outputs.get_set (t : Outputs) (o : OutputId) (x : Output) : (t.set o x).get o = x := by cases o <;> rfl

theorem Outputs.get_set_ne (t : Outputs) {o n : OutputId} (x : Output) (h : n ≠ o) : (t.set o x).get n = t.get n := by
  cases o <;> cases n <;> first | rfl | exact absurd rfl h

@[simp] theorem Outputs.set_set (t : Outputs) (o : OutputId) (x y : Output) : (t.set o x).set o y = t.set o y := by cases o <;> rfl

@[simp] theorem Outputs.get_map (t : Outputs) (f : Output → Output) (o : OutputId) : (t.map f).get o = f (t.get o) := by cases o <;> rfl

@[simp] theorem PerUnit.get_all {α : Type} (x : α) (u : UnitId) : (PerUnit.all x).get u = x := by
  cases u with
  | device => rfl
  | store => rfl
  | input i => cases i <;> rfl
  | path p => cases p <;> rfl
  | output o => cases o <;> rfl

@[simp] theorem PerUnit.get_set {α : Type} (t : PerUnit α) (u : UnitId) (x : α) : (t.set u x).get u = x := by
  cases u with
  | device => rfl
  | store => rfl
  | input i => cases i <;> rfl
  | path p => cases p <;> rfl
  | output o => cases o <;> rfl

/-! ### The views of a unit -/

@[simp] theorem State.path_eq (s : State) (p : PathId) : s.path p = s.paths.get p := rfl

@[simp] theorem State.input_eq (s : State) (i : InputId) : s.input i = s.inputs.get i := rfl

@[simp] theorem State.output_eq (s : State) (o : OutputId) : s.output o = s.outputs.get o := rfl

/-! ### Fields after an update -/

@[simp] theorem State.modInput_pending (s : State) (i : InputId) (f : Input → Input) : (s.modInput i f).pending = s.pending := rfl

@[simp] theorem State.modInput_resetHeld (s : State) (i : InputId) (f : Input → Input) : (s.modInput i f).resetHeld = s.resetHeld := rfl

@[simp] theorem State.modInput_device (s : State) (i : InputId) (f : Input → Input) : (s.modInput i f).device = s.device := rfl

@[simp] theorem State.modInput_inputs (s : State) (i : InputId) (f : Input → Input) : (s.modInput i f).inputs = s.inputs.set i (f (s.inputs.get i)) := rfl

@[simp] theorem State.modInput_paths (s : State) (i : InputId) (f : Input → Input) : (s.modInput i f).paths = s.paths := rfl

@[simp] theorem State.modInput_outputs (s : State) (i : InputId) (f : Input → Input) : (s.modInput i f).outputs = s.outputs := rfl

@[simp] theorem State.modInput_store (s : State) (i : InputId) (f : Input → Input) : (s.modInput i f).store = s.store := rfl

@[simp] theorem State.modInput_link (s : State) (i : InputId) (f : Input → Input) : (s.modInput i f).link = s.link := rfl

@[simp] theorem State.modInput_lastTags (s : State) (i : InputId) (f : Input → Input) : (s.modInput i f).lastTags = s.lastTags := rfl

@[simp] theorem State.modInput_freeCount (s : State) (i : InputId) (f : Input → Input) : (s.modInput i f).freeCount = s.freeCount := rfl

@[simp] theorem State.modPath_pending (s : State) (p : PathId) (f : Path → Path) : (s.modPath p f).pending = s.pending := rfl

@[simp] theorem State.modPath_resetHeld (s : State) (p : PathId) (f : Path → Path) : (s.modPath p f).resetHeld = s.resetHeld := rfl

@[simp] theorem State.modPath_device (s : State) (p : PathId) (f : Path → Path) : (s.modPath p f).device = s.device := rfl

@[simp] theorem State.modPath_inputs (s : State) (p : PathId) (f : Path → Path) : (s.modPath p f).inputs = s.inputs := rfl

@[simp] theorem State.modPath_paths (s : State) (p : PathId) (f : Path → Path) : (s.modPath p f).paths = s.paths.set p (f (s.paths.get p)) := rfl

@[simp] theorem State.modPath_outputs (s : State) (p : PathId) (f : Path → Path) : (s.modPath p f).outputs = s.outputs := rfl

@[simp] theorem State.modPath_store (s : State) (p : PathId) (f : Path → Path) : (s.modPath p f).store = s.store := rfl

@[simp] theorem State.modPath_link (s : State) (p : PathId) (f : Path → Path) : (s.modPath p f).link = s.link := rfl

@[simp] theorem State.modPath_lastTags (s : State) (p : PathId) (f : Path → Path) : (s.modPath p f).lastTags = s.lastTags := rfl

@[simp] theorem State.modPath_freeCount (s : State) (p : PathId) (f : Path → Path) : (s.modPath p f).freeCount = s.freeCount := rfl

@[simp] theorem State.modOutput_pending (s : State) (o : OutputId) (f : Output → Output) : (s.modOutput o f).pending = s.pending := rfl

@[simp] theorem State.modOutput_resetHeld (s : State) (o : OutputId) (f : Output → Output) : (s.modOutput o f).resetHeld = s.resetHeld := rfl

@[simp] theorem State.modOutput_device (s : State) (o : OutputId) (f : Output → Output) : (s.modOutput o f).device = s.device := rfl

@[simp] theorem State.modOutput_inputs (s : State) (o : OutputId) (f : Output → Output) : (s.modOutput o f).inputs = s.inputs := rfl

@[simp] theorem State.modOutput_paths (s : State) (o : OutputId) (f : Output → Output) : (s.modOutput o f).paths = s.paths := rfl

@[simp] theorem State.modOutput_outputs (s : State) (o : OutputId) (f : Output → Output) : (s.modOutput o f).outputs = s.outputs.set o (f (s.outputs.get o)) := rfl

@[simp] theorem State.modOutput_store (s : State) (o : OutputId) (f : Output → Output) : (s.modOutput o f).store = s.store := rfl

@[simp] theorem State.modOutput_link (s : State) (o : OutputId) (f : Output → Output) : (s.modOutput o f).link = s.link := rfl

@[simp] theorem State.modOutput_lastTags (s : State) (o : OutputId) (f : Output → Output) : (s.modOutput o f).lastTags = s.lastTags := rfl

@[simp] theorem State.modOutput_freeCount (s : State) (o : OutputId) (f : Output → Output) : (s.modOutput o f).freeCount = s.freeCount := rfl

@[simp] theorem State.modStore_pending (s : State) (f : Store → Store) : (s.modStore f).pending = s.pending := rfl

@[simp] theorem State.modStore_resetHeld (s : State) (f : Store → Store) : (s.modStore f).resetHeld = s.resetHeld := rfl

@[simp] theorem State.modStore_device (s : State) (f : Store → Store) : (s.modStore f).device = s.device := rfl

@[simp] theorem State.modStore_inputs (s : State) (f : Store → Store) : (s.modStore f).inputs = s.inputs := rfl

@[simp] theorem State.modStore_paths (s : State) (f : Store → Store) : (s.modStore f).paths = s.paths := rfl

@[simp] theorem State.modStore_outputs (s : State) (f : Store → Store) : (s.modStore f).outputs = s.outputs := rfl

@[simp] theorem State.modStore_store (s : State) (f : Store → Store) : (s.modStore f).store = f s.store := rfl

@[simp] theorem State.modStore_link (s : State) (f : Store → Store) : (s.modStore f).link = s.link := rfl

@[simp] theorem State.modStore_lastTags (s : State) (f : Store → Store) : (s.modStore f).lastTags = s.lastTags := rfl

@[simp] theorem State.modStore_freeCount (s : State) (f : Store → Store) : (s.modStore f).freeCount = s.freeCount := rfl

@[simp] theorem State.modDevice_pending (s : State) (f : Device → Device) : (s.modDevice f).pending = s.pending := rfl

@[simp] theorem State.modDevice_resetHeld (s : State) (f : Device → Device) : (s.modDevice f).resetHeld = s.resetHeld := rfl

@[simp] theorem State.modDevice_device (s : State) (f : Device → Device) : (s.modDevice f).device = f s.device := rfl

@[simp] theorem State.modDevice_inputs (s : State) (f : Device → Device) : (s.modDevice f).inputs = s.inputs := rfl

@[simp] theorem State.modDevice_paths (s : State) (f : Device → Device) : (s.modDevice f).paths = s.paths := rfl

@[simp] theorem State.modDevice_outputs (s : State) (f : Device → Device) : (s.modDevice f).outputs = s.outputs := rfl

@[simp] theorem State.modDevice_store (s : State) (f : Device → Device) : (s.modDevice f).store = s.store := rfl

@[simp] theorem State.modDevice_link (s : State) (f : Device → Device) : (s.modDevice f).link = s.link := rfl

@[simp] theorem State.modDevice_lastTags (s : State) (f : Device → Device) : (s.modDevice f).lastTags = s.lastTags := rfl

@[simp] theorem State.modDevice_freeCount (s : State) (f : Device → Device) : (s.modDevice f).freeCount = s.freeCount := rfl

@[simp] theorem State.modLink_pending (s : State) (f : Link → Link) : (s.modLink f).pending = s.pending := rfl

@[simp] theorem State.modLink_resetHeld (s : State) (f : Link → Link) : (s.modLink f).resetHeld = s.resetHeld := rfl

@[simp] theorem State.modLink_device (s : State) (f : Link → Link) : (s.modLink f).device = s.device := rfl

@[simp] theorem State.modLink_inputs (s : State) (f : Link → Link) : (s.modLink f).inputs = s.inputs := rfl

@[simp] theorem State.modLink_paths (s : State) (f : Link → Link) : (s.modLink f).paths = s.paths := rfl

@[simp] theorem State.modLink_outputs (s : State) (f : Link → Link) : (s.modLink f).outputs = s.outputs := rfl

@[simp] theorem State.modLink_store (s : State) (f : Link → Link) : (s.modLink f).store = s.store := rfl

@[simp] theorem State.modLink_link (s : State) (f : Link → Link) : (s.modLink f).link = f s.link := rfl

@[simp] theorem State.modLink_lastTags (s : State) (f : Link → Link) : (s.modLink f).lastTags = s.lastTags := rfl

@[simp] theorem State.modLink_freeCount (s : State) (f : Link → Link) : (s.modLink f).freeCount = s.freeCount := rfl

@[simp] theorem State.raise_pending (s : State) (u : UnitId) (d : NoticeDetail) : (s.raise u d).pending = s.pending := rfl

@[simp] theorem State.raise_resetHeld (s : State) (u : UnitId) (d : NoticeDetail) : (s.raise u d).resetHeld = s.resetHeld := rfl

@[simp] theorem State.raise_device (s : State) (u : UnitId) (d : NoticeDetail) : (s.raise u d).device = s.device := rfl

@[simp] theorem State.raise_inputs (s : State) (u : UnitId) (d : NoticeDetail) : (s.raise u d).inputs = s.inputs := rfl

@[simp] theorem State.raise_paths (s : State) (u : UnitId) (d : NoticeDetail) : (s.raise u d).paths = s.paths := rfl

@[simp] theorem State.raise_outputs (s : State) (u : UnitId) (d : NoticeDetail) : (s.raise u d).outputs = s.outputs := rfl

@[simp] theorem State.raise_store (s : State) (u : UnitId) (d : NoticeDetail) : (s.raise u d).store = s.store := rfl

@[simp] theorem State.raise_link (s : State) (u : UnitId) (d : NoticeDetail) : (s.raise u d).link = s.link.raise s.device.uptime u d := rfl

@[simp] theorem State.raise_lastTags (s : State) (u : UnitId) (d : NoticeDetail) : (s.raise u d).lastTags = s.lastTags := rfl

@[simp] theorem State.raise_freeCount (s : State) (u : UnitId) (d : NoticeDetail) : (s.raise u d).freeCount = s.freeCount := rfl

@[simp] theorem State.withPending_pending (s : State) (q : List Instr) : (s.withPending q).pending = q := rfl

@[simp] theorem State.withPending_resetHeld (s : State) (q : List Instr) : (s.withPending q).resetHeld = s.resetHeld := rfl

@[simp] theorem State.withPending_device (s : State) (q : List Instr) : (s.withPending q).device = s.device := rfl

@[simp] theorem State.withPending_inputs (s : State) (q : List Instr) : (s.withPending q).inputs = s.inputs := rfl

@[simp] theorem State.withPending_paths (s : State) (q : List Instr) : (s.withPending q).paths = s.paths := rfl

@[simp] theorem State.withPending_outputs (s : State) (q : List Instr) : (s.withPending q).outputs = s.outputs := rfl

@[simp] theorem State.withPending_store (s : State) (q : List Instr) : (s.withPending q).store = s.store := rfl

@[simp] theorem State.withPending_link (s : State) (q : List Instr) : (s.withPending q).link = s.link := rfl

@[simp] theorem State.withPending_lastTags (s : State) (q : List Instr) : (s.withPending q).lastTags = s.lastTags := rfl

@[simp] theorem State.withPending_freeCount (s : State) (q : List Instr) : (s.withPending q).freeCount = s.freeCount := rfl

end Sys2Proof.Machine
end

