-- ==== Sys2Proof/Laws/Ops.lean ====
section
/-! SUPPORT. What each shared operation leaves alone, once per operation, and what moving pages does to the page lists; the symbol in
progress and the bits of a byte. -/

namespace Sys2Proof.Machine

open Sys2Proof

/-- The units that no operation of a path touches: the queue of commands, the RESET pin, the device and input units, the last taken tags, the
free choices. -/
structure Quiet (s t : State) : Prop where
  pending : t.pending = s.pending
  resetHeld : t.resetHeld = s.resetHeld
  device : t.device = s.device
  inputs : t.inputs = s.inputs
  lastTags : t.lastTags = s.lastTags
  freeCount : t.freeCount = s.freeCount

theorem Quiet.refl (s : State) : Quiet s s := ⟨rfl, rfl, rfl, rfl, rfl, rfl⟩

theorem Quiet.trans {s t u : State} (h : Quiet s t) (k : Quiet t u) : Quiet s u :=
  ⟨k.1.trans h.1, k.2.trans h.2, k.3.trans h.3, k.4.trans h.4, k.5.trans h.5, k.6.trans h.6⟩

theorem Quiet.ite {c : Prop} [Decidable c] {s t u : State} (h : Quiet s t) (k : Quiet s u) : Quiet s (if c then t else u) := by
  split
  · exact h
  · exact k

theorem modPath_quiet (s : State) (p : PathId) (f : Path → Path) : Quiet s (s.modPath p f) := ⟨rfl, rfl, rfl, rfl, rfl, rfl⟩

theorem modStore_quiet (s : State) (f : Store → Store) : Quiet s (s.modStore f) := ⟨rfl, rfl, rfl, rfl, rfl, rfl⟩

theorem modOutput_quiet (s : State) (o : OutputId) (f : Output → Output) : Quiet s (s.modOutput o f) := ⟨rfl, rfl, rfl, rfl, rfl, rfl⟩

theorem modLink_quiet (s : State) (f : Link → Link) : Quiet s (s.modLink f) := ⟨rfl, rfl, rfl, rfl, rfl, rfl⟩

theorem raise_quiet (s : State) (u : UnitId) (d : NoticeDetail) : Quiet s (s.raise u d) := ⟨rfl, rfl, rfl, rfl, rfl, rfl⟩

theorem setEnables_quiet (s : State) (u : UnitId) (e : Half) : Quiet s (s.setEnables u e) := ⟨rfl, rfl, rfl, rfl, rfl, rfl⟩

theorem enterPath_quiet (s : State) (p : PathId) (new : PathState) : Quiet s (s.enterPath p new) := by
  unfold State.enterPath
  exact Quiet.ite ⟨rfl, rfl, rfl, rfl, rfl, rfl⟩ ⟨rfl, rfl, rfl, rfl, rfl, rfl⟩

theorem movePath_quiet (s : State) (p : PathId) (new : PathState) (reason : Reason) : Quiet s (s.movePath p new reason) :=
  (enterPath_quiet s p new).trans (raise_quiet _ _ _)

theorem grant_quiet (s : State) (p : PathId) (n : Nat) : Quiet s (s.grant p n) := ⟨rfl, rfl, rfl, rfl, rfl, rfl⟩

theorem releasePages_quiet (s : State) (p : PathId) (keep : Nat) : Quiet s (s.releasePages p keep) := ⟨rfl, rfl, rfl, rfl, rfl, rfl⟩

theorem dropStaging_quiet (s : State) (p : PathId) : Quiet s (s.dropStaging p) := ⟨rfl, rfl, rfl, rfl, rfl, rfl⟩

theorem joinQueue_quiet (s : State) (p : PathId) (n : Nat) : Quiet s (s.joinQueue p n) := ⟨rfl, rfl, rfl, rfl, rfl, rfl⟩

theorem examineUpTo_quiet (n : Nat) : ∀ s : State, Quiet s (State.examineUpTo n s) := by
  induction n with
  | zero => exact Quiet.refl
  | succ n ih =>
    intro s
    unfold State.examineUpTo
    split
    · exact Quiet.refl s
    · rename_i w rest _
      exact Quiet.ite (((modStore_quiet s _).trans ((grant_quiet _ _ _).trans (movePath_quiet _ _ _ _))).trans (ih _)) (Quiet.refl s)

theorem examine_quiet (s : State) : Quiet s s.examine := examineUpTo_quiet _ s

theorem releaseHolding_quiet (s : State) (p : PathId) : Quiet s (s.releaseHolding p) :=
  Quiet.ite (Quiet.refl s) ((releasePages_quiet s p 0).trans ((dropStaging_quiet _ p).trans (examine_quiet _)))

theorem withdraw_quiet (s : State) (p : PathId) : Quiet s (s.withdraw p) :=
  Quiet.ite ((modStore_quiet s _).trans (examine_quiet _)) (Quiet.refl s)

theorem giveUpStore_quiet (s : State) (p : PathId) : Quiet s (s.giveUpStore p) := (releaseHolding_quiet s p).trans (withdraw_quiet _ p)

theorem endTune_quiet (s : State) (p : PathId) (result : TuneResult) : Quiet s (s.endTune p result) := by
  unfold State.endTune
  split
  · exact Quiet.refl s
  · exact Quiet.ite ⟨rfl, rfl, rfl, rfl, rfl, rfl⟩ (Quiet.refl s)

theorem stopScan_quiet (s : State) (p : PathId) : Quiet s (s.stopScan p) := by
  unfold State.stopScan
  split
  · exact Quiet.refl s
  · exact ⟨rfl, rfl, rfl, rfl, rfl, rfl⟩

theorem Quiet.foldl {α : Type} {f : State → α → State} (h : ∀ s a, Quiet s (f s a)) (l : List α) : ∀ s : State, Quiet s (l.foldl f s) := by
  induction l with
  | nil => exact Quiet.refl
  | cons a l ih => exact fun s => (h s a).trans (ih _)

theorem countFill_quiet (s : State) (o : OutputId) : Quiet s (s.count (.fill o)) := by
  unfold State.count
  exact Quiet.ite ⟨rfl, rfl, rfl, rfl, rfl, rfl⟩ ⟨rfl, rfl, rfl, rfl, rfl, rfl⟩

theorem startSlot_quiet (s : State) (o : OutputId) : Quiet s (s.startSlot o) := by
  unfold State.startSlot
  split
  · exact modOutput_quiet s o _
  · exact (modOutput_quiet s o _).trans (countFill_quiet _ o)

theorem beginFirstSlot_quiet (s : State) (o : OutputId) : Quiet s (s.beginFirstSlot o) := Quiet.ite (startSlot_quiet s o) (Quiet.refl s)

theorem takeRate_quiet (s : State) (p : PathId) (rate : Word) (o : OutputId) : Quiet s (s.takeRate p rate o) := by
  unfold State.takeRate
  refine Quiet.ite ?_ (Quiet.refl s)
  split
  · exact Quiet.refl s
  · exact (modOutput_quiet s o _).trans (beginFirstSlot_quiet _ o)
  · exact modOutput_quiet s o _

theorem latchRate_quiet (s : State) (p : PathId) : Quiet s (s.latchRate p) := by
  unfold State.latchRate
  split
  · exact Quiet.refl s
  · exact (modPath_quiet s p _).trans (Quiet.foldl (fun s o => takeRate_quiet s p _ o) _ _)

theorem countPath_quiet (s : State) (p : PathId) (c : PathCounter) : Quiet s (s.countPath p c) := by
  unfold State.countPath
  refine Quiet.ite (Quiet.refl s) ?_
  unfold State.count
  exact Quiet.ite ⟨rfl, rfl, rfl, rfl, rfl, rfl⟩ ⟨rfl, rfl, rfl, rfl, rfl, rfl⟩

theorem markBlanked_quiet (s : State) (p : PathId) : Quiet s (s.markBlanked p) :=
  Quiet.ite ((modPath_quiet s p _).trans (countPath_quiet _ _ _)) (Quiet.refl s)

theorem blankIfImpulse_quiet (s : State) (p : PathId) : Quiet s (s.blankIfImpulse p) := Quiet.ite (markBlanked_quiet s p) (Quiet.refl s)

theorem firstFault_quiet (s : State) (p : PathId) (cause : FaultCause) (value : Word) : Quiet s (s.firstFault p cause value) :=
  (modPath_quiet s p _).trans ((setEnables_quiet _ _ _).trans ((giveUpStore_quiet _ p).trans ((enterPath_quiet _ _ _).trans
    ((raise_quiet _ _ _).trans (endTune_quiet _ _ _)))))

theorem secondFault_quiet (s : State) (p : PathId) (cause : FaultCause) : Quiet s (s.secondFault p cause) :=
  (modPath_quiet s p _).trans ((giveUpStore_quiet _ p).trans ((enterPath_quiet _ _ _).trans ((raise_quiet _ _ _).trans
    ((raise_quiet _ _ _).trans (endTune_quiet _ _ _)))))

theorem takeFault_quiet (s : State) (p : PathId) (cause : FaultCause) (value : Word) : Quiet s (s.takeFault p cause value) :=
  Quiet.ite (secondFault_quiet s p cause) (firstFault_quiet s p cause value)

/-! ### Moving pages -/

theorem grant_pages (s : State) (p : PathId) (n : Nat) : ((s.grant p n).path p).pages = (s.path p).pages ++ s.store.free.take n := by
  simp [State.grant]

theorem releasePages_pages (s : State) (p : PathId) (keep : Nat) :
    ((s.releasePages p keep).path p).pages = (s.path p).pages.take keep := by
  simp [State.releasePages]

theorem examine_empty (s : State) (h : s.store.wait = []) : s.examine = s := by simp [State.examine, h, State.examineUpTo]

theorem examine_blocked (s : State) (w : Waiting) (rest : List Waiting) (h : s.store.wait = w :: rest)
    (k : s.store.free.length < w.need) : s.examine = s := by
  simp [State.examine, h, State.examineUpTo, Nat.not_le.mpr k]

/-! ### Cells and slots -/

/-- A cell within the pages held lies in the page at its place in the list. -/
theorem cellPlace_inside (x : Path) (cell : Nat) (h : cell < 65536 * x.pages.length) :
    ∃ page, x.pages[cell / 65536]? = some page ∧ x.cellPlace cell = some (page, cell % 65536) := by
  have hl : cell / 65536 < x.pages.length := Nat.div_lt_of_lt_mul h
  exact ⟨x.pages[cell / 65536], by simp [hl], by simp [Path.cellPlace, Config.cellsPerPage, hl]⟩

/-- A cell beyond the pages held lies nowhere. -/
theorem cellPlace_outside (x : Path) (cell : Nat) (h : 65536 * x.pages.length ≤ cell) : x.cellPlace cell = none := by
  have hl : x.pages.length ≤ cell / 65536 := by omega
  simp [Path.cellPlace, Config.cellsPerPage, hl]

/-- The head of the queue goes on the line. -/
theorem startSlot_head (s : State) (o : OutputId) (head : Packet) (rest : List Packet) (h : (s.output o).queue = head :: rest) :
    s.startSlot o = s.modOutput o (fun x => { x with queue := rest, line := some { packet := head, rate := x.rate } }) := by
  simp [State.startSlot, h]

/-- With an empty queue a null packet goes on the line and FILL steps. -/
theorem startSlot_null (s : State) (o : OutputId) (h : (s.output o).queue = []) :
    s.startSlot o = (s.modOutput o (fun x => { x with line := some { packet := nullPacket, rate := x.rate } })).count (.fill o) := by
  simp [State.startSlot, h]

/-! ### The symbol in progress, bits on a serial line -/

/-- A path without symbol timing has no symbol in progress once the last one has closed. -/
theorem nextSymbol_adrift (x : Path) (h : x.hasTiming = false) : x.nextSymbol.symbolAnchor = none := by simp [Path.nextSymbol, h]

/-- A path with symbol timing starts its next symbol with the anchor that stands (R66). -/
theorem nextSymbol_timed (x : Path) (h : x.hasTiming = true) : x.nextSymbol.symbolAnchor = x.tracker.anchor := by
  simp [Path.nextSymbol, h]

/-- A new anchor leaves the window of the symbol in progress as it was (R66). -/
theorem receiveWindow_newAnchor (x : Path) (a : Option Int) :
    ({ x with tracker := { x.tracker with anchor := a } } : Path).receiveWindow = x.receiveWindow := rfl

/-- A byte takes ten bit times (R160). -/
theorem serialByte_length (b : Byte) : (serialByte b).length = 10 := rfl

end Sys2Proof.Machine
end

