-- ==== Sys2Proof/Laws/Requests.lean ====
section
/-! SUPPORT. How a request that reaches its unit ends, from what its unit answers. -/

namespace Sys2Proof.Machine

open Sys2Proof

theorem live_running {s : State} (h : s.resetHeld = false) (f : State → State) : live s f = .next (f s) := by simp [live, h]

theorem exec_requestCommand (v : Verb) (r : Request) (s : State) : exec (requestCommand v r) s = live s (requestArrives v r) := by
  cases v <;> rfl

/-- With the checks of dispatch passed, the request is handed over whole. -/
theorem dispatch_checksPass {s : State} {v : Verb} {r : Request} {u : UnitId} (h : ChecksPass s v r u) :
    s.dispatch (some v) r = .inr (takenOf r u) := by
  obtain ⟨hu, ht, he, hg, hs, hl, htag, hc⟩ := h
  have h2 : ¬(v ≠ .getStatus ∧ s.unitEnabled u = false) := by
    rintro ⟨a, b⟩
    rcases he with he | he
    · exact a he
    · simp [he] at b
  have h3 : ¬(r.port = .sp ∧ (v.access u.kind).heldBy s.device.grants = false) := by
    rintro ⟨a, b⟩
    rcases hg with hg | hg
    · simp [hg] at a
    · simp [hg] at b
  have h4 : ¬(tooShortForCondition r = true ∨ v.allowsLength (bodyOf r).length = false) := by simp [hs, hl]
  simp only [State.dispatch, hu]
  rw [if_neg (by simp [ht]), if_neg h2, if_neg h3, if_neg h4, if_neg htag, if_neg (by simp [hc])]
  rfl

theorem checksPass_hunt {s : State} {v : Verb} {r : Request} {u : UnitId} (p : Port) (h : ChecksPass s v r u) :
    ChecksPass (s.hunt p) v r u := by
  cases u <;> exact h

/-- A request that reaches its unit is concluded with what the unit answers. -/
theorem requestArrives_handsOver {s : State} {v : Verb} {r : Request} {u : UnitId} (h : HandsOver s v r u) :
    requestArrives v r s = (s.hunt r.port).conclude r (takenOf r u) (answer v (takenOf r u)) := by
  obtain ⟨_, hroom, hc⟩ := h
  have hroom' : ¬(Config.replyCap ≤ ((s.hunt r.port).link.replies.get r.port).length) := Nat.not_le.mpr hroom
  unfold requestArrives State.takeRequest
  rw [if_neg hroom', dispatch_checksPass (checksPass_hunt r.port hc)]

/-- A taken request ends as `Concludes` says, whatever the free choice. -/
theorem conclude_concludes (s : State) (r : Request) (u : UnitId) (f : State → Answer) (st : Status) (body : List Byte) (thenReset : Bool)
    (effect : State → State) (hst : st.isTaken = true)
    (ha : f s = { status := st, body, state := effect s, thenReset })
    (hb : ∀ x, (f (s.occupyCp x)).state = effect (s.occupyCp x)) :
    Concludes s r u st body thenReset effect (s.conclude r (takenOf r u) f) := by
  unfold Concludes State.conclude
  simp only [ha, hb, State.recordTag, hst, if_true]
  cases hr : repliesTo r st
  · simp
    rfl
  · cases hp : pendingTogether s (effect s) r.port
    · simp
      rfl
    · cases hf : Config.replyFirst s.freeCount
      · simp
        exact Or.inl rfl
      · simp
        exact Or.inr rfl

/-- From what the unit answers to how the command ends. -/
theorem takenWith_of_answer {s : State} {v : Verb} {r : Request} {u : UnitId} {st : Status} {body : List Byte} {effect : State → State}
    (h : HandsOver s v r u) (hst : st.isTaken = true)
    (ha : answer v (takenOf r u) (s.hunt r.port) = { status := st, body, state := effect (s.hunt r.port), thenReset := false })
    (hb : ∀ x, (answer v (takenOf r u) ((s.hunt r.port).occupyCp x)).state = effect ((s.hunt r.port).occupyCp x)) :
    TakenWith v s r u st body effect := by
  refine ⟨_, ?_, conclude_concludes (s.hunt r.port) r u (answer v (takenOf r u)) st body false effect hst ha hb⟩
  rw [exec_requestCommand, live_running h.1, requestArrives_handsOver h]

/-- A refusal by the unit is answered and changes nothing. -/
theorem refusedWith_of_answer {s : State} {v : Verb} {r : Request} {u : UnitId} {st : Status} (h : HandsOver s v r u)
    (hst : st.isTaken = false) (hw : st.needsWanting = false)
    (ha : answer v (takenOf r u) (s.hunt r.port) = refused st (s.hunt r.port)) : RefusedWith v s r st := by
  unfold RefusedWith
  rw [exec_requestCommand, live_running h.1, requestArrives_handsOver h]
  have hp : pendingTogether (s.hunt r.port) (s.hunt r.port) r.port = false := by
    unfold pendingTogether
    cases (s.hunt r.port).link.tx.cp <;> simp
  simp [State.conclude, ha, refused, repliesTo, hw, hp, State.recordTag, hst, replyOf]

end Sys2Proof.Machine
end

