-- ==== Sys2Proof/Tests/Slice0.lean ====
section
/-! SUPPORT. Tests of the model on small states: the checks of WellFormed, one command at a time, and a concrete state and operands for the
hypotheses of every obligation that has any. -/

namespace Sys2Proof.Tests

open Sys2Proof Sys2Proof.Machine

/-! ### Small states -/

/-- What a command leaves, seen through a view; none where it does not answer a next state. -/
def leaves {α : Type} (c : Instr) (s : State) (view : State → α) : Option α :=
  match exec c s with
  | .next t => some (view t)
  | .fault _ => none
  | .refused _ => none

/-- A request of the controller port with its reply wanted. -/
def ask (unit : Byte) (body : List Byte) : Request := { port := .cp, unit, tag := 17, flags := 1, tail := body }

/-- A request of the service port. -/
def askSp (unit : Byte) (body : List Byte) : Request := { port := .sp, unit, tag := 9, flags := 1, tail := body }

/-- A request with a condition. -/
def askIf (unit code : Byte) (hi lo : Byte) (body : List Byte) : Request :=
  { port := .cp, unit, tag := 18, flags := 3, tail := code :: hi :: lo :: body }

def aReply : Reply := { unit := 1, tag := 1, status := .ok, body := [], thenReset := false }

/-- A reply on its way, at a speed. -/
def replyAt (speed : LinkSpeed) : Sending := { frame := .reply aReply, speed }

def runningInput : Input := { Input.initial with state := .running }

def idlePath : Path := { Path.initial with state := .idle }

def silentOutput : Output := { Output.initial with state := .silent }

/-- Every unit on, the inputs RUNNING, the paths IDLE, the outputs SILENT, and a frame on each transmitter, so that notices and replies
wait in their queues. -/
def part : State :=
  { State.reset with
    device := { State.reset.device with unitEnable := 0x0FFC }
    inputs := { a := runningInput, b := runningInput }
    paths := { p0 := idlePath, p1 := idlePath, p2 := idlePath, p3 := idlePath }
    outputs := { o0 := silentOutput, o1 := silentOutput, o2 := silentOutput, o3 := silentOutput }
    link := { Link.initial with tx := { cp := some (replyAt .b115200), sp := some (replyAt .b57600) } } }

def aTune : TuneRecord :=
  { input := .a, band := .uhf, channel := 22, offset := 0, persist := false, sender := { tag := 3, port := .cp }, attempts := 0,
    result := .pending }

/-- 8K, guard 1/8, depth 700000 cells: 11 pages. -/
def aRecord : SigRecord :=
  { symbolMode := 1, guardFraction := 2, constellation := 3, codeRate := 2, depth := 700000, streamRate := 20000000,
    cellIdentity := 0x1234, changeCount := 5 }

def aScan (phase : ScanPhase) : ScanRecord :=
  { input := .a, band := .uhf, first := 30, last := 34, sender := { tag := 40, port := .cp }, current := 30, phase, done := 0, finds := 0,
    truncated := false, stopped := false }

/-- The tracker after the worked case's seeding (3.9). -/
def seeded : Tracker :=
  seedTracker .initial { mode := .m8k, fraction := .g8 } [⟨0, 0⟩, ⟨2, 44⟩, ⟨180, 28⟩, ⟨690, 50⟩, ⟨17000, 70⟩]

/-- P0 tuned to INPUT A, in a state, with the tracker, record, pages and queue place that go with it. -/
def tuned (st : PathState) : State :=
  let s := part.modPath .p0 (fun x => { x with
    tune := some aTune, sig := some { record := aRecord, unsupported := false }, tracker := seeded, holdTiming := true,
    frameFound := st != .symbol, window := some (freshWindow x.config), symbolAnchor := seeded.anchor, scan := if st = .scan then some (aScan .search) else none })
  let s := if st.holding then s.grant .p0 11 else s
  let s := if st = .pageWait then s.joinQueue .p0 11 else s
  s.modPath .p0 (fun x => { x.enter st with tune := some aTune })

/-- P0 in SCAN, in a phase, with the phase's timer. -/
def scanning (phase : ScanPhase) : State :=
  (tuned .scan).modPath .p0 (fun x => match phase with
    | .search => x.searchChannel (aScan .search)
    | .symbol => x.symbolPhase (aScan .symbol)
    | .frame => x.framePhase (aScan .frame))

/-- HOLDOVER with symbol timing lost. -/
def adrift : State := (tuned .holdover).modPath .p0 (fun x => { x with holdTiming := false, frameFound := false, window := none })

def held (s : State) : State := { s with resetHeld := true }

def aPacket : Packet := { byte0 := 0xB8, byte1 := 0x40, byte2 := 0x11, byte3 := 0x12, payload := List.replicate 184 0x55 }

/-- O0 bound to P0 and RUNNING. -/
def running (s : State) (q : List Packet) : State :=
  s.modOutput .o0 (fun x => { x with state := .running, bound := some .p0, rate := some 20000000, queue := q })

/-- The details of the notices that wait. -/
def details (s : State) : List NoticeDetail := s.link.notices.map NoticeRecord.detail

/-- Status and body of the replies that wait on the controller port. -/
def answers (s : State) : List (Status × List Byte) := s.link.replies.cp.map (fun r => (r.status, r.body))

/-! ### WellFormed -/

theorem test_wf_requestTooLong : (Instr.tune { ask 4 [] with tail := List.replicate 247 0 }).wf = false := by decide +kernel

theorem test_wf_packetTooShort : (Instr.decodedPacket .p0 { aPacket with payload := List.replicate 183 0 } .good).wf = false := by
  decide +kernel

theorem test_wf_tooManyObservations : (Instr.estimate .p0 ((List.range 17).map (fun n => ⟨n, 0⟩))).wf = false := by decide

theorem test_wf_equalDelays : (Instr.estimate .p0 [⟨5, 0⟩, ⟨5, 9⟩]).wf = false := by decide

theorem test_wf_coarseWithoutStrongest : (Instr.symbolTimingFound .p0 .m8k .g4 [⟨5, 0⟩]).wf = false := by decide

theorem test_wf_accepts :
    (Instr.symbolTimingFound .p0 .m8k .g4 [⟨0, 0⟩, ⟨5, 9⟩]).wf = true ∧ (Instr.decodedPacket .p0 aPacket .good).wf = true ∧
    (Instr.setUnits { ask 1 [] with tail := List.replicate 246 0 }).wf = true := by decide +kernel

/-! ### Power, receivers, transmitters -/

theorem test_powerOn : leaves (.powerOn true true) part (fun t => (t.store.fitment, t.store.free.length, t.device.extPresent)) =
    some (256, 256, true) := by decide +kernel

theorem test_resetPin : leaves .resetPinAssert part State.resetHeld = some true ∧
    leaves (.resetPinRelease false true) (held part) (fun t => t == State.powerOn false true) = some true ∧
    leaves (.resetPinRelease false true) part (fun t => t == part) = some true := by decide

theorem test_check_of_123456789 : crc16 [0x31, 0x32, 0x33, 0x34, 0x35, 0x36, 0x37, 0x38, 0x39] = 0x29B1 := by decide +kernel

theorem test_byteArrives_mark : leaves (.byteArrives .sp 0x5A) part (fun t => t.link.rx.sp) = some .length := by decide

/-- The frame of an unknown verb, bytes written out, is answered UNKNOWN_VERB. -/
theorem test_byteArrives_unknownVerb :
    (match bytesArrive .cp (frameOf [6, 17, 0x77, 1]) part with
      | .next t => answers t
      | .fault _ => []
      | .refused _ => []) = [(.unknownVerb, [])] := by decide +kernel

theorem test_frameDiscarded : leaves (.frameDiscarded .cp .lengthByte) (part.setReceiver .cp .length) (fun t => t.link.rx.cp) = some .hunt ∧
    leaves (.frameDiscarded .cp .badCheck) (part.setReceiver .cp .length) (fun t => t.link.rx.cp) = some .length := by decide

theorem test_gapTimerExpiry : leaves (.gapTimerExpiry .cp) (part.setReceiver .cp (.body 4 [1])) (fun t => t.link.rx.cp) = some .hunt := by
  decide

/-- The bytes of a reply (9.4): mark, LEN 3, UNIT, TAG, STATUS, CHECK. -/
theorem test_replyBytes : Reply.bytes { unit := 6, tag := 17, status := .unknownVerb, body := [], thenReset := false } =
    [90, 3, 6, 17, 33, 169, 189] := by decide +kernel

theorem test_transmitFrameEnd : leaves (.transmitFrameEnd .cp) ((tuned .locked).raise (.path .p0) (.pathState .fill .locked .filled))
    (fun t => (details t, t.link.tx.cp.isSome)) = some ([], true) ∧
    leaves (.transmitFrameEnd .sp) part (fun t => t.link.tx.sp) = some none := by decide

/-- The first frame at the new speed begins at the boundary; the frame before it keeps the old one (R160, R178). -/
theorem test_linkSpeedChange :
    leaves .linkSpeedChange (part.modLink (fun l => { l with tx := { l.tx with cp := none }, speedPending := [⟨.b460800, 0⟩] }))
      (fun t => (t.link.cpSpeed, t.link.speedPending.length)) = some (.b460800, 0) ∧
    leaves .linkSpeedChange (part.modLink (fun l => { l with speedPending := [⟨.b460800, 1⟩] })) (fun t => t.link.cpSpeed) =
      some .b115200 := by decide

/-- A reply that leaves brings a stored speed to its boundary, where the transmitter waits (R160, log 12). -/
theorem test_transmitterWaitsAtTheBoundary :
    leaves (.transmitFrameEnd .cp) (part.modLink (fun l => { l with
      replies := { l.replies with cp := [aReply, aReply] }, speedPending := [⟨.b460800, 1⟩] }))
        (fun t => (t.link.tx.cp.isSome, t.link.replies.cp.length, t.link.speedPending)) = some (true, 1, [⟨.b460800, 0⟩]) ∧
    leaves (.transmitFrameEnd .cp) (part.modLink (fun l => { l with
      replies := { l.replies with cp := [aReply] }, speedPending := [⟨.b460800, 0⟩] }))
        (fun t => (t.link.tx.cp.isSome, t.link.replies.cp.length)) = some (false, 1) := by decide

/-- The mark 0x5A on a serial line; a reply of seven bytes takes seventy bit times, an idle transmitter none (R160). -/
theorem test_serialLine : serialByte 0x5A = [.start, .data false, .data true, .data false, .data true, .data true, .data false, .data true,
      .data false, .stop] ∧
    (part.link.serialLine .cp).length = 70 ∧ (part.link.serialLine .cp).take 10 = serialByte 0x5A ∧ Link.initial.serialLine .cp = [] := by
  decide +kernel

theorem test_resetDevice : leaves (.resetDevice (ask 1 [])) part (fun t => t.link.replies.cp.map Reply.thenReset) = some [true] ∧
    leaves .deviceResetAction ((tuned .locked).modLink (fun l => { l with resetDue := true }))
      (fun t => ((t.path .p0).state, t.store.free.length, t.link.tx.cp.map Sending.speed)) = some (.off, 128, some .b115200) := by
  decide +kernel

/-- A reset that takes a stored speed leaves the frame in progress the speed it began with (R178). -/
theorem test_resetDevice_keepsTheSpeedOfAFrame :
    leaves .deviceResetAction (part.modLink (fun l => { l with resetDue := true, speedPending := [⟨.b460800, 1⟩] }))
      (fun t => (t.link.cpSpeed, t.link.tx.cp.map Sending.speed)) = some (.b460800, some .b115200) := by decide +kernel

/-! ### Requests -/

theorem test_getStatus : leaves (.getStatus (ask 4 [])) (tuned .locked) (fun t => (answers t).map (fun a => a.2.take 12)) =
    some [[7, 1, 0, 1, 22, 0, 0, 0, 3, 0, 0, 0]] := by decide

theorem test_setConfig_path : leaves (.setConfig (ask 4 [2, 0, 10, 10, 0, 9])) part
    (fun t => ((t.path .p0).config.holdoverTime, (t.path .p0).config.bias, answers t)) =
    some (50, 8, [(.ok, [2, 0, 50, 10, 0, 8])]) := by decide

/-- GAIN is refused in AUTO, and taken with GAIN_MODE in the same request (R18). -/
theorem test_setConfig_input : leaves (.setConfig (ask 2 [2, 0, 40])) part (fun t => ((t.input .a).gain, answers t)) =
      some (32, [(.badValue, [])]) ∧
    leaves (.setConfig (ask 2 [2, 0, 40, 1, 0, 1])) part (fun t => ((t.input .a).gain, (t.input .a).gainMode)) = some (40, .manual) := by
  decide

theorem test_getConfig : leaves (.getConfig (ask 8 [])) part answers = some [(.ok, [1, 0, 0])] := by decide

theorem test_tune : leaves (.tune (ask 4 [0, 1, 22, 2, 0])) part
    (fun t => ((t.path .p0).state, (t.path .p0).tune.map TuneRecord.offset, details t)) =
      some (.search, some 500, [.pathState .idle .search .tune]) ∧
    leaves (.tune (ask 4 [0, 1, 22, 2, 0])) part answers = some [(.accepted, [1, 244])] := by decide

theorem test_tune_supersedes : leaves (.tune (ask 4 [1, 0, 5, 0, 0])) (tuned .fill)
    (fun t => (t.store.free.length, (t.path .p0).pages, details t)) =
    some (128, [], [.tuneResult ⟨3, .cp⟩ .superseded 0, .pathState .fill .search .tune]) := by decide +kernel

theorem test_stop : leaves (.stop (ask 4 [])) (tuned .locked) (fun t => ((t.path .p0).state, t.store.free.length, t.store.free.head?)) =
      some (.idle, 128, some 11) ∧
    leaves (.stop (askIf 4 1 0 0 [])) (tuned .locked) (fun t => ((t.path .p0).state, answers t)) =
      some (.locked, [(.conditionFalse, [])]) := by decide +kernel

theorem test_scan : leaves (.scan (ask 5 [0, 1, 45, 27])) part (fun t => ((t.path .p1).state, (t.path .p1).searchTimer, answers t)) =
    some (.scan, some 300, [(.accepted, [3, 48])]) := by decide

theorem test_ackFault : leaves (.ackFault (ask 4 [])) ((tuned .locked).takeFault .p0 .storeStall 7)
    (fun t => ((t.path .p0).state, (t.path .p0).fault.hold, t.link.enables.path0)) = some (.idle, false, 0x03FF) := by decide

theorem test_readTable : leaves (.readTable (ask 4 [2, 0])) (tuned .fill) answers =
      some [(.ok, [11, 0, 0, 1, 0, 1, 2, 3, 4, 5, 6, 7, 8, 9, 10])] ∧
    leaves (.readTable (ask 2 [1, 0])) part answers = some [(.unknownVerb, [])] := by decide

theorem test_counters : leaves (.readCounters (ask 8 [3])) (part.count (.fill .o0)) answers =
      some [(.ok, [0, 0, 0, 0, 1, 0, 1, 0, 0, 0, 0, 0])] ∧
    leaves (.clearCounters (ask 8 [1])) (part.count (.fill .o0)) (fun t => (t.output .o0).fill) = some ⟨0, false⟩ := by decide

theorem test_maskNotices : leaves (.maskNotices (ask 4 [0, 0, 0])) part (fun t => (t.link.enables.path0, answers t)) =
    some (0x000C, [(.ok, [3, 255])]) := by decide

theorem test_bind : leaves (.bind (ask 8 [0])) (tuned .locked) (fun t => ((t.output .o0).bound, (t.output .o0).state)) =
      some (some .p0, .silent) ∧
    leaves (.bind (ask 8 [255])) (running (tuned .locked) [aPacket]) (fun t => ((t.output .o0).queue, (t.output .o0).state)) =
      some ([], .silent) := by decide

theorem test_setUnits : leaves (.setUnits (ask 1 [0, 4])) (tuned .locked)
    (fun t => ((t.input .a).state, (t.input .b).state, (t.path .p0).state, (t.output .o0).state, t.store.free.length)) =
      some (.running, .off, .off, .off, 128) ∧
    leaves (.setUnits (ask 1 [0, 4])) State.reset (fun t => ((t.input .a).state, (t.input .a).calibrationTimer)) =
      some (.calibrating, some 20) := by decide +kernel

theorem test_setGrants : leaves (.setGrants (ask 1 [0x41])) part (fun t => (t.device.grants, answers t)) = some (0x41, [(.ok, [0])]) ∧
    leaves (.setGrants (askSp 1 [0xFF])) part (fun t => (t.device.grants, t.link.replies.sp.map Reply.status)) =
      some (0, [.notGranted]) := by decide

theorem test_setReference : leaves (.setReference (ask 1 [1])) part (fun t => (t.device.reference, answers t)) =
    some (.fallback, [(.ok, [3])]) := by decide

theorem test_setLink : leaves (.setLink (ask 1 [3])) part (fun t => (t.link.cpSpeed, t.link.speedPending)) =
    some (.b115200, [⟨.b460800, 1⟩]) := by decide

theorem test_clearScan : leaves (.clearScan (ask 1 []))
    (part.modDevice (fun d => d.find (scanEntryOf (aScan .frame) 30 aRecord))) (fun t => (t.device.scanList, t.device.scanNumber)) =
    some ([], 2) := by decide

theorem test_resetUnit : leaves (.resetUnit (ask 4 [])) (tuned .fill)
    (fun t => ((t.path .p0).state, (t.path .p0).tune, t.store.free.length, details t)) =
    some (.idle, none, 128, [.tuneResult ⟨3, .cp⟩ .stopped 0, .pathState .fill .idle .unitReset]) := by decide +kernel

/-! ### Reference and inputs -/

def withReference (st : RefState) : State := part.modDevice (fun d => { d with reference := st, switchTimer := some 10 })

theorem test_externalReturns : leaves .externalReturns (withReference .fallback) (fun t => (t.device.reference, t.device.extPresent)) =
    some (.switching, true) := by decide

theorem test_externalLost : leaves .externalLost (withReference .external) (fun t => (t.device.reference, details t)) =
    some (.fallback, [.reference .external .fallback true]) := by decide

theorem test_switchTimerExpiry : leaves .switchTimerExpiry (withReference .switching) (fun t => t.device.reference) =
    some .external := by decide

theorem test_calibrationTimerExpiry :
    leaves (.calibrationTimerExpiry .b) (part.modInput .b (fun x => { x with state := .calibrating, calibrationTimer := some 20 }))
      (fun t => (t.input .b).state) = some .running := by decide

theorem test_gainPeriodClose : leaves (.gainPeriodClose .a 200 0) part (fun t => ((t.input .a).gain, (t.input .a).occupancy)) =
      some (31, 200) ∧
    leaves (.gainPeriodClose .a 200 5) part (fun t => ((t.input .a).gain, (t.input .a).clip.value)) = some (30, 1) := by decide

theorem test_impulseEvent : leaves (.impulseEventBegins .a 201) (tuned .locked)
      (fun t => ((t.input .a).impulses.value, (t.path .p0).symbol.blanked, (t.path .p0).counters.blanked.value)) = some (1, true, 1) ∧
    leaves (.impulseEventEnds .a) (part.modInput .a (fun x => { x with impulse := true })) (fun t => (t.input .a).impulse) =
      some false := by decide

/-- INPUT A's supply in a state. -/
def mastIn (st : MastState) : State := part.modInput .a (fun x => { x with mast := st })

def mastOn (retries : Nat) : State :=
  part.modInput .a (fun x => { x with mast := .on, retries, tripFreeTimer := some 60000 })

theorem test_overcurrent : leaves (.overcurrent .a) (mastOn 4) (fun t => ((t.input .a).mast, (t.input .a).retryTimer)) =
      some (.tripped, some 2000) ∧
    leaves (.overcurrent .a) (mastOn 5) (fun t => (t.input .a).mast) = some .lockout := by decide

theorem test_retryTimerExpiry :
    leaves (.retryTimerExpiry .a) (part.modInput .a (fun x => { x with mast := .tripped, retryTimer := some 2000 }))
      (fun t => ((t.input .a).mast, (t.input .a).retries)) = some (.on, 1) := by decide

theorem test_tripFreeTimerExpiry : leaves (.tripFreeTimerExpiry .a) (mastOn 3) (fun t => (t.input .a).retries) = some 0 := by decide

/-! ### Paths -/

/-- The worked case's seeding (3.9). -/
theorem test_symbolTimingFound :
    leaves (.symbolTimingFound .p0 .m8k .g8 [⟨0, 0⟩, ⟨2, 44⟩, ⟨180, 28⟩, ⟨690, 50⟩, ⟨17000, 70⟩]) (tuned .search)
      (fun t => ((t.path .p0).state, (t.path .p0).tracker.anchor, (t.path .p0).tracker.table.map EchoEntry.delay)) =
    some (.symbol, some 857, [0, 180, 690]) := by decide

theorem test_frameStartFound : leaves (.frameStartFound .p0) (tuned .symbol) (fun t => ((t.path .p0).state, (t.path .p0).frameTimer)) =
    some (.frame, some 1000) := by decide

/-- The first eleven free pages (5.8), or a place in the queue. -/
theorem test_signallingRecordDecoded :
    leaves (.signallingRecordDecoded .p0 aRecord) (tuned .frame) (fun t => ((t.path .p0).state, (t.path .p0).pages, t.store.alloc)) =
      some (.fill, [0, 1, 2, 3, 4, 5, 6, 7, 8, 9, 10], 1) ∧
    leaves (.signallingRecordDecoded .p0 aRecord) ((tuned .frame).modStore (fun t => { t with free := t.free.take 10 }))
      (fun t => ((t.path .p0).state, t.store.wait)) = some (.pageWait, [⟨.p0, 11⟩]) := by decide +kernel

theorem test_unsupportedRecord :
    leaves (.signallingRecordDecoded .p0 { aRecord with constellation := 9 }) (tuned .frame)
      (fun t => ((t.path .p0).state, t.link.enables.path0, details t)) =
      some (.fault, 0x036E, [.pathFault .unsupportedSignal .frame 0 (some ⟨3, .cp⟩) true 5, .tuneResult ⟨3, .cp⟩ .unsupported 0]) := by
  decide

theorem test_fillComplete : leaves (.fillComplete .p0) (tuned .fill) (fun t => ((t.path .p0).state, (t.path .p0).latched, details t)) =
    some (.locked, some 20000000, [.tuneResult ⟨3, .cp⟩ .locked 0, .pathState .fill .locked .filled]) := by decide

theorem test_symbolTimingLost : leaves (.symbolTimingLost .p0) (tuned .locked)
    (fun t => ((t.path .p0).state, (t.path .p0).holdoverTimer, (t.path .p0).pages.length, (t.path .p0).window)) =
    some (.holdover, some 500, 11, none) := by decide

theorem test_phaseTimers : leaves (.searchTimerExpiry .p0) (tuned .search) (fun t => ((t.path .p0).state, details t)) =
      some (.idle, [.pathState .search .idle .timeout, .tuneResult ⟨3, .cp⟩ .noSignal 1]) ∧
    leaves (.symbolTimerExpiry .p0) (tuned .symbol) (fun t => (t.path .p0).state) = some .search ∧
    leaves (.frameTimerExpiry .p0) (tuned .frame) (fun t => (t.path .p0).tune.map TuneRecord.attempts) = some (some 1) := by decide

theorem test_holdoverTimerExpiry : leaves (.holdoverTimerExpiry .p0) (tuned .holdover)
    (fun t => ((t.path .p0).state, t.store.free.length)) = some (.idle, 128) := by decide +kernel

/-- A scan's channel with a find, and one that ends empty (7.2). -/
theorem test_scanChannels :
    leaves (.signallingRecordDecoded .p0 aRecord) (scanning .frame)
      (fun t => (t.device.scanList.map ScanEntry.channel, (t.path .p0).scan.map ScanRecord.current)) = some ([30], some 31) ∧
    leaves (.searchTimerExpiry .p0) (scanning .search) (fun t => (t.path .p0).scan.map ScanRecord.done) = some (some 1) := by decide

/-- Estimate 1 of the worked case (3.9). -/
theorem test_estimate : leaves (.estimate .p0 [⟨1, 0⟩, ⟨181, 26⟩, ⟨420, 66⟩, ⟨1500, 80⟩]) (tuned .locked)
    (fun t => ((t.path .p0).tracker.table.map (fun e => (e.delay, e.hits, e.age)), (t.path .p0).tracker.anchor)) =
    some ([(1, 4, 0), (181, 4, 0), (420, 1, 0), (690, 3, 1), (1500, 1, 0)], some 857) := by decide

/-- The anchor moves from 857 to 859 at once, the receive window with the next symbol (R66). -/
theorem test_windowOfTheSymbolInProgress :
    let exact := (tuned .locked).modPath .p0 (fun x => { x with config := { x.config with moveThreshold := 0 } })
    leaves (.estimate .p0 [⟨2, 0⟩, ⟨182, 28⟩, ⟨692, 50⟩]) exact (fun t => ((t.path .p0).tracker.anchor, (t.path .p0).receiveWindow)) =
      some (some 859, some (-167, 857)) ∧
    leaves (.symbolClose .p0 655) ((tuned .locked).modPath .p0 (fun x => { x with tracker := { x.tracker with anchor := some 859 } }))
      (fun t => (t.path .p0).receiveWindow) = some (some (-165, 859)) := by decide +kernel

/-- The worked case of placement at estimate 3 (3.9). -/
theorem test_placement : target 1024 4
    [⟨0, 0, .confirmed, 6, 0⟩, ⟨183, 24, .confirmed, 6, 0⟩, ⟨422, 58, .confirmed, 3, 0⟩, ⟨690, 50, .confirmed, 3, 3⟩,
      ⟨1497, 76, .confirmed, 3, 0⟩] = some 690 := by decide +kernel

/-- The worked case of window arithmetic (4.6). -/
theorem test_mer : [655, 62, 7, 6, 65535, 0].map merOf = [200, 302, 397, 400, 0, 400] := by decide +kernel

/-- A path that came back to LOCKED without a frame start compares no record (R21). -/
theorem test_recordWithoutFrame :
    leaves (.signallingRecordDecoded .p0 { aRecord with changeCount := 6 }) ((tuned .locked).modPath .p0 (fun x => { x with
      frameFound := false })) (fun t => ((t.path .p0).sig.map (fun h => h.record.changeCount))) = some (some 5) := by decide

/-- The last symbol of a window. -/
def windowEnd (st : PathState) : State :=
  (tuned st).modPath .p0 (fun x => { x with window := some { length := 64, counted := 63, unblanked := 63, sum := 63 * 65535 } })

theorem test_symbolClose : leaves (.symbolClose .p0 65535) (windowEnd .locked) (fun t => ((t.path .p0).state, (t.path .p0).quality)) =
      some (.holdover, .mer 0) ∧
    leaves (.symbolClose .p0 655) (tuned .locked) (fun t => (t.path .p0).window.map (fun w => (w.counted, w.sum))) =
      some (some (1, 655)) := by decide +kernel

/-! ### Packets, bursts -/

theorem test_decodedPacket : leaves (.decodedPacket .p0 aPacket .failed) (running (tuned .locked) [])
    (fun t => ((t.output .o0).queue.map (fun q => (q.byte0, q.byte1)), (t.path .p0).counters.failed.value)) =
    some ([(0x47, 0xC0)], 1) := by decide

theorem test_slotStart : leaves (.slotStart .o0) (running part []) (fun t => ((t.output .o0).fill.value, (t.output .o0).line.isSome)) =
      some (1, true) ∧
    leaves (.packetInProgressFinishes .o1) (part.modOutput .o1 (fun x => { x with line := some ⟨aPacket, none⟩ }))
      (fun t => (t.output .o1).line) = some none := by decide

/-- An output bound to a path that locks begins its first slot at once: a null packet, and FILL (R122, R126). -/
theorem test_firstSlotBeginsAtOnce :
    leaves (.fillComplete .p0) ((tuned .fill).modOutput .o0 (fun x => { x with bound := some .p0 }))
      (fun t => ((t.output .o0).state, (t.output .o0).line.map Slot.rate, (t.output .o0).fill.value)) =
      some (.running, some (some 20000000), 1) := by decide

/-- The first nine bits of a packet on the line: 0x47, then the first bit of 0x40 without sync (R123). -/
theorem test_lineBits :
    let bits := Output.lineBits { Output.initial with line := some ⟨{ aPacket with byte0 := 0x47 }, some 20000000⟩ }
    (bits.take 9).map LineBit.data = [false, true, false, false, false, true, true, true, false] ∧
    (bits.take 9).map LineBit.sync = [true, true, true, true, true, true, true, true, false] ∧ bits.length = 1504 := by decide +kernel

theorem test_burstFormed : leaves (.burstFormed .p0 .write) (tuned .fill) (fun t => (t.store.service, t.store.lastGranted)) =
      some (.burst .p0 .write false, .p0) ∧
    leaves (.burstFormed .p0 .read) (((tuned .fill).modStore (fun t => { t with service := .refresh })).modPath .p0 (fun x =>
      { x with staging := List.replicate 8 .write })) (fun t => ((t.path .p0).symbol.discard, (t.path .p0).counters.storeLate.value)) =
      some (true, 1) := by decide

theorem test_refreshDue : leaves .refreshDue part (fun t => (t.store.service, t.store.refreshPending)) = some (.refresh, 0) := by
  decide

theorem test_grantEnd :
    leaves .grantEnd ((part.modStore (fun t => { t with service := .refresh, refreshPending := 3 })).modPath .p2 (fun x =>
      { x with staging := [.read] })) (fun t => t.store.service) = some (.burst .p2 .read false) := by decide

theorem test_idleStep : (match step part with
    | .next t => t.device.uptime
    | .fault _ => 0
    | .refused _ => 0) = 1 := by decide

/-! ### Witnesses: for each obligation with hypotheses, states and operands that meet those of every clause -/

theorem test_witness_EmptyQueueTicks : State.reset.pending = [] ∧ (held part).pending = [] := by decide

theorem test_witness_PowerOnAndResetPin : (held part).resetHeld = true ∧ (∀ f r, Instr.refreshDue ≠ .powerOn f r) ∧
    (∀ f r, Instr.refreshDue ≠ .resetPinRelease f r) := by decide

theorem test_witness_DeviceResetTakesEffect :
    (HandsOver part .resetDevice (ask 1 []) .device ∧ replyWanted (ask 1 []) = true) ∧
    (HandsOver part .resetDevice { ask 1 [] with flags := 0 } .device ∧ replyWanted { ask 1 [] with flags := 0 } = false) ∧
    (part.resetHeld = false ∧ (part.modLink (fun l => { l with resetDue := true })).link.resetDue = true) := by decide

/-- P0's port in BODY with three bytes of LEN 4 kept, and with five. -/
def inBody (got : List Byte) : State := part.setReceiver .cp (.body 4 got)

theorem test_witness_ReceiverFollowsItsTable :
    (part.link.rx.get .cp = .hunt ∧ (0x5B : Byte) ≠ 0x5A) ∧
    ((part.setReceiver .cp .length).link.rx.get .cp = .length ∧ 4 ≤ (4 : Byte).toNat ∧ (250 : Byte).toNat ≤ 250) ∧
    ((3 : Byte).toNat < 4 ∧ 250 < (251 : Byte).toNat) ∧
    ((inBody [6, 17, 1, 1]).link.rx.get .cp = .body 4 [6, 17, 1, 1] ∧ [(6 : Byte), 17, 1, 1].length + 1 < (4 : Byte).toNat + 2) ∧
    ((4 : Byte).toNat + 2 ≤ [(6 : Byte), 17, 1, 1, 0].length + 1 ∧
      half (crc16 ((4 : Byte) :: ([6, 17, 1, 1, 0] ++ [0]).take 4)) ≠ ([6, 17, 1, 1, 0] ++ [0]).drop 4) ∧
    (part.setReceiver .cp .length).link.rx.get .cp ≠ .hunt ∧
    8 ≤ ((inBody []).modLink (fun l => { l with replies := { l.replies with cp := List.replicate 8 aReply } })).link.replies.cp.length := by
  decide +kernel

theorem test_witness_FrameBytesAreTheCommand :
    part.resetHeld = false ∧ part.link.rx.get .cp = .hunt ∧ (ask 4 []).wf = true ∧ (ask 4 (List.replicate 246 0)).wf = true := by
  decide +kernel

theorem test_witness_DispatchChecksInOrder :
    (unitOf 0 = none ∧ unitOf 13 = none ∧ unitOf 1 = some .device ∧ unitOf 12 = some .store) ∧
    Verb.takenBy .tune .store = false ∧
    (Verb.takenBy .tune (.path .p0) = true ∧ Verb.tune ≠ .getStatus ∧ State.reset.unitEnabled (.path .p0) = false) ∧
    (part.unitEnabled (.path .p0) = true ∧ (askSp 4 []).port = .sp ∧ (Verb.access .tune .path).heldBy part.device.grants = false) ∧
    (tooShortForCondition { ask 4 [1, 0] with flags := 3 } = true ∧ tooShortForCondition (askIf 4 1 0 0 []) = false) ∧
    (Verb.allowsLength .tune 4 = false ∧ Verb.allowsLength .tune 5 = true ∧ Verb.allowsLength .setConfig 0 = false) ∧
    badConditionForm .setUnits (askIf 1 1 0 0 [0, 4]) = true ∧ badConditionForm .stop (askIf 4 0 0 0 []) = true ∧
    badConditionForm .stop (askIf 4 5 0 0 []) = true ∧ badConditionForm .stop (askIf 4 4 0 0 []) = false ∧
    ChecksPass part .stop (askIf 4 4 0 0 []) (.path .p0) ∧ ChecksPass State.reset .getStatus (askSp 4 []) (.path .p0) := by decide

/-- The controller port's reply queue with this many replies. -/
def replying (n : Nat) : State := part.modLink (fun l => { l with replies := { l.replies with cp := List.replicate n aReply } })

theorem test_witness_RefusedRequestChangesNothing :
    part.resetHeld = false ∧ ((replying 7).link.replies.get .cp).length < 8 ∧
    (match (replying 7).dispatch (some .tune) (ask 13 []) with
      | .inl st => st == .unknownUnit
      | .inr _ => false) = true ∧
    8 ≤ ((replying 8).link.replies.get .cp).length := by decide

theorem test_witness_QueriesAnswerAndChangeNothing :
    HandsOver part .getStatus (ask 12 []) .store ∧ HandsOver part .getConfig (ask 4 []) (.path .p0) ∧
    (HandsOver part .readTable (ask 12 [3, 255]) .store ∧ bodyOf (ask 12 [3, 255]) = [3, 255] ∧
      part.table .store 3 255 = some (u16 128 ++ u16 0)) ∧
    (HandsOver part .readTable (ask 12 [5, 0]) .store ∧ part.table .store 5 0 = none) ∧
    (HandsOver part .readCounters (ask 8 [3]) (.output .o0) ∧ (selection (unitCounters (.output .o0)) 3).isSome = true) ∧
    (HandsOver part .readCounters (ask 8 [4]) (.output .o0) ∧ selection (unitCounters (.output .o0)) 4 = none) := by
  repeat' apply And.intro
  all_goals decide +kernel

def calibrating : State := part.modInput .a (fun x => { x with state := .calibrating, calibrationTimer := some 20 })

theorem test_witness_SetConfigStoresTheItems :
    (HandsOver calibrating .setConfig (ask 2 [3, 0, 1]) (.input .a) ∧ (calibrating.input .a).state = .calibrating) ∧
    (HandsOver part .setConfig (ask 2 [3, 0, 160]) (.input .a) ∧ (part.input .a).state = .running ∧
      draftInput (part.input .a) (itemsOf [3, 0, 160]) = none ∧ (draftInput (part.input .a) (itemsOf [3, 0, 159])).isSome = true) ∧
    (HandsOver (scanning .search) .setConfig (ask 4 [8, 0, 1]) (.path .p0) ∧ ((scanning .search).path .p0).state = .scan) ∧
    (HandsOver (tuned .halt) .setConfig (ask 4 [8, 0, 1]) (.path .p0) ∧ ((tuned .halt).path .p0).state = .halt) ∧
    (HandsOver part .setConfig (ask 4 [11, 0, 4]) (.path .p0) ∧
      applyItems setPathItem (part.path .p0).config (itemsOf [11, 0, 4]) = none ∧
      (applyItems setPathItem (part.path .p0).config (itemsOf [11, 0, 3])).isSome = true) ∧
    (HandsOver part .setConfig (ask 8 [1, 0, 3]) (.output .o0) ∧ applyItems setOutputItem (part.output .o0).policy (itemsOf [1, 0, 3]) = none ∧
      applyItems setOutputItem (part.output .o0).policy (itemsOf [1, 0, 2]) = some .drop) := by
  repeat' apply And.intro
  all_goals decide

theorem test_witness_SetConfigStoresTheItems_values :
    (1 < (2 : Half).toNat ∧ 7 < (8 : Byte).toNat ∧ (3 : Half).toNat < 4 ∧ 4 ≤ (4 : Half).toNat ∧ 11 < (12 : Byte).toNat ∧
      2 < (3 : Half).toNat ∧ (0 : Byte) ≠ 1) ∧
    ((part.input .a).mast = .off ∧ ((mastOn 4).input .a).mast = .on ∧ ((mastIn .tripped).input .a).mast = .tripped ∧
      ((mastIn .lockout).input .a).mast = .lockout) := by decide

theorem test_witness_TuneStartsAcquisition :
    (HandsOver part .tune (ask 4 [0, 1, 48, 0, 0]) (.path .p0) ∧ bodyOf (ask 4 [0, 1, 48, 0, 0]) = [0, 1, 48, 0, 0] ∧
      inputOf 0 = some .a ∧ bandOf 1 = some .uhf ∧ channelInBand .uhf 48 = true ∧ (part.path .p0).state ∉ [.off, .scan, .halt] ∧
      (part.input .a).state ≠ .off ∧ (takenOf (ask 4 [0, 1, 48, 0, 0]) (.path .p0)).conditionHolds (part.path .p0) = true) ∧
    (inputOf 2 = none ∧ bandOf 2 = none ∧ bandOf 0 = some .iii ∧ channelInBand .iii 13 = false ∧ channelInBand .iii 4 = false ∧
      channelInBand .iii 5 = true) ∧
    (HandsOver (tuned .halt) .tune (ask 4 [0, 1, 48, 0, 0]) (.path .p0) ∧ ((tuned .halt).path .p0).state = .halt) ∧
    (HandsOver (scanning .symbol) .tune (ask 4 [0, 1, 48, 0, 0]) (.path .p0) ∧ ((scanning .symbol).path .p0).state = .scan) ∧
    (HandsOver (part.modInput .a (fun x => { x with state := .off })) .tune (ask 4 [0, 1, 48, 0, 0]) (.path .p0)) := by
  repeat' apply And.intro
  all_goals decide

theorem test_witness_StopEndsAcquisition :
    (HandsOver (tuned .holdover) .stop (ask 4 []) (.path .p0) ∧
      (takenOf (ask 4 []) (.path .p0)).conditionHolds ((tuned .holdover).path .p0) = true ∧
      ((tuned .holdover).path .p0).state.attached = true ∧ ((scanning .frame).path .p0).state.attached = true) ∧
    (HandsOver part .stop (askIf 4 4 0 0 []) (.path .p0) ∧ (part.path .p0).state = .idle ∧
      (takenOf (askIf 4 4 0 0 []) (.path .p0)).conditionHolds (part.path .p0) = true) ∧
    (HandsOver (tuned .fault) .stop (ask 4 []) (.path .p0) ∧ ((tuned .fault).path .p0).state = .fault) ∧
    (HandsOver (tuned .halt) .stop (ask 4 []) (.path .p0) ∧ ((tuned .halt).path .p0).state = .halt) ∧
    ((part.path .p0).scan = none ∧ ((scanning .frame).path .p0).scan = some (aScan .frame)) := by decide

theorem test_witness_ScanStartsInIdle :
    (HandsOver part .scan (ask 4 [1, 0, 12, 255]) (.path .p0) ∧ bodyOf (ask 4 [1, 0, 12, 255]) = [1, 0, 12, 255] ∧ inputOf 1 = some .b ∧
      bandOf 0 = some .iii ∧ channelInBand .iii 12 = true ∧ (part.path .p0).state = .idle ∧ (part.input .b).state ≠ .off ∧
      (takenOf (ask 4 [1, 0, 12, 255]) (.path .p0)).conditionHolds (part.path .p0) = true) ∧
    HandsOver (part.modInput .b (fun x => { x with state := .off })) .scan (ask 4 [1, 0, 12, 255]) (.path .p0) ∧
    HandsOver (scanning .search) .scan (ask 4 [1, 0, 12, 255]) (.path .p0) ∧
    (HandsOver (tuned .search) .scan (ask 4 [1, 0, 12, 255]) (.path .p0) ∧ ((tuned .search).path .p0).state ∉ [.off, .idle, .scan]) := by
  decide

theorem test_witness_ScanStartsInIdle_badValues :
    (HandsOver part .scan (ask 4 [2, 0, 5, 0]) (.path .p0) ∧ 1 < (2 : Byte).toNat) ∧
    HandsOver part .scan (ask 4 [0, 2, 5, 0]) (.path .p0) ∧
    (HandsOver part .scan (ask 4 [0, 0, 4, 0]) (.path .p0) ∧ (4 : Byte).toNat < 5) ∧
    (HandsOver part .scan (ask 4 [0, 0, 13, 0]) (.path .p0) ∧ 12 < (13 : Byte).toNat) ∧
    (HandsOver part .scan (ask 4 [0, 1, 20, 0]) (.path .p0) ∧ (20 : Byte).toNat < 21) ∧
    (HandsOver part .scan (ask 4 [0, 1, 49, 0]) (.path .p0) ∧ 48 < (49 : Byte).toNat) := by
  repeat' apply And.intro
  all_goals decide

theorem test_witness_FalseConditionChangesNothing :
    (takenOf (askIf 4 1 0 0 []) (.path .p0)).conditionHolds ((tuned .locked).path .p0) = false ∧
    HandsOver (tuned .locked) .stop (askIf 4 1 0 0 []) (.path .p0) ∧
    (HandsOver (tuned .locked) .tune (askIf 4 1 0 0 [0, 1, 21, 0, 0]) (.path .p0) ∧
      bodyOf (askIf 4 1 0 0 [0, 1, 21, 0, 0]) = [0, 1, 21, 0, 0] ∧ ((tuned .locked).path .p0).state ∉ [.off, .scan, .halt]) ∧
    (HandsOver part .scan (askIf 4 3 0 0 [0, 1, 21, 0]) (.path .p0) ∧ bodyOf (askIf 4 3 0 0 [0, 1, 21, 0]) = [0, 1, 21, 0] ∧
      (takenOf (askIf 4 3 0 0 [0, 1, 21, 0]) (.path .p0)).conditionHolds (part.path .p0) = false ∧ (part.path .p0).state = .idle) := by
  decide

/-- P0 LOCKED with a last quality. -/
def qualified (q : Quality) : Path := { (tuned .locked).path .p0 with quality := q }

/-- The four conditions, QUALITY_BELOW at a MER one below, at and without its value (R91, R171). -/
theorem test_witness_FalseConditionChangesNothing_conditions :
    (let t := fun code lo => takenOf (askIf 4 code 0 lo [7]) (.path .p0)
     (t 1 0).condition = some ⟨1, 0⟩ ∧ (t 2 120).condition = some ⟨2, 120⟩ ∧ (t 3 0).condition = some ⟨3, 0⟩ ∧
      (t 4 0).condition = some ⟨4, 0⟩ ∧
      (t 1 0).conditionHolds (qualified .none) = false ∧ (t 1 0).conditionHolds idlePath = true ∧
      (t 2 120).conditionHolds (qualified (.mer 119)) = true ∧ (t 2 120).conditionHolds (qualified (.mer 120)) = false ∧
      (t 2 0).conditionHolds (qualified .invalid) = true ∧ (t 2 0).conditionHolds (qualified .none) = true ∧
      (t 3 0).conditionHolds (qualified .none) = false ∧ (t 4 0).conditionHolds idlePath = true) ∧
    ((takenOf (ask 4 []) (.path .p0)).condition = none ∧ (ask 4 []).flags.getLsbD 1 = false) ∧
    ((askIf 4 2 1 44 [7]).flags.getLsbD 1 = true ∧ (askIf 4 2 1 44 [7]).tail = 2 :: 1 :: 44 :: [7] ∧
      conditionOf (askIf 4 2 1 44 [7]) = some ⟨2, 300⟩) := by decide

/-- P0 after a first fault, then as it is, or tuned again with the hold still set. -/
def faulted : State := (tuned .locked).takeFault .p0 .storeStall 7

theorem test_witness_AckFaultClearsTheHold :
    (HandsOver (tuned .halt) .ackFault (ask 4 []) (.path .p0) ∧ ((tuned .halt).path .p0).state = .halt) ∧
    (HandsOver part .ackFault (ask 4 []) (.path .p0) ∧ (part.path .p0).state ≠ .fault ∧ (part.path .p0).fault.hold = false) ∧
    (HandsOver faulted .ackFault (ask 4 []) (.path .p0) ∧ (faulted.path .p0).fault.saved = some ⟨true, true, true⟩ ∧
      (faulted.path .p0).state = .fault) ∧
    (HandsOver (faulted.movePath .p0 .search .tune) .ackFault (ask 4 []) (.path .p0) ∧
      ((faulted.movePath .p0 .search .tune).path .p0).fault.hold = true ∧
      ((faulted.movePath .p0 .search .tune).path .p0).fault.saved = some ⟨true, true, true⟩) := by decide

def granting (g : Byte) : State := part.modDevice (fun d => { d with grants := g })

/-- O0's FILL counter at a value, with its flag. -/
def fillAt (value : Word) (overflow : Bool) : State := part.setCounter (.fill .o0) ⟨value, overflow⟩

/-- P0 in a state, with both classes inhibited or none. -/
def inhibiting (st : PathState) (b : Bool) : State :=
  (tuned st).modPath .p0 (fun x => { x with config := { x.config with inhibitAcquiring := b, inhibitHoldover := b } })

theorem test_witness_CountersStepWrapAndClear :
    (((fillAt 0xFFFFFFFE false).counter (.fill .o0)).value ≠ 0xFFFFFFFF) ∧
    (((fillAt 0xFFFFFFFF false).counter (.fill .o0)).value = 0xFFFFFFFF ∧
      ((fillAt 0xFFFFFFFF false).counter (.fill .o0)).overflow = false) ∧
    (((fillAt 0xFFFFFFFF true).counter (.fill .o0)).value = 0xFFFFFFFF ∧
      ((fillAt 0xFFFFFFFF true).counter (.fill .o0)).overflow = true) ∧
    (((inhibiting .search true).path .p0).state = .search ∧ ((inhibiting .search true).path .p0).config.inhibitAcquiring = true) ∧
    (((inhibiting .holdover true).path .p0).state = .holdover ∧ ((inhibiting .holdover true).path .p0).config.inhibitHoldover = true) ∧
    (((inhibiting .locked true).path .p0).state = .locked ∧ ((inhibiting .fill false).path .p0).config.inhibitAcquiring = false) ∧
    (2 ^ (unitCounters (.path .p0)).length ≤ (64 : Byte).toNat ∧ (63 : Byte) ≠ 0 ∧
      (63 : Byte).toNat < 2 ^ (unitCounters (.path .p0)).length) ∧
    (HandsOver part .clearCounters (ask 4 [0x40]) (.path .p0) ∧ selection (unitCounters (.path .p0)) 0x40 = none) ∧
    (HandsOver part .clearCounters (ask 4 [0x20]) (.path .p0) ∧ bodyOf (ask 4 [0x20]) = [0x20] ∧
      selection (unitCounters (.path .p0)) 0x20 = some [.path .p0 .anchorMoves]) ∧
    (HandsOver (granting 0x20) .clearCounters (askSp 4 [0]) (.path .p0) ∧ (granting 0x20).device.grants.getLsbD 6 = false) := by
  decide

theorem test_witness_MaskNoticesCombines :
    HandsOver part .maskNotices (ask 4 [3, 0, 0]) (.path .p0) ∧ bodyOf (ask 4 [3, 0, 0]) = [3, 0, 0] ∧ 2 < (3 : Byte).toNat ∧
    HandsOver part .maskNotices (ask 4 [0, 0, 0]) (.path .p0) ∧ HandsOver part .maskNotices (ask 4 [1, 0, 0]) (.path .p0) ∧
    HandsOver part .maskNotices (ask 4 [2, 0, 0]) (.path .p0) := by decide

/-- P0 LOCKED with its rate latched. -/
def latched : State := (tuned .locked).latchRate .p0

/-- A packet on O0's line. -/
def onLine (s : State) : State := s.modOutput .o0 (fun x => { x with line := some ⟨aPacket, some 20000000⟩ })

theorem test_witness_BindSetsTheBinding :
    (HandsOver part .bind (ask 8 [4]) (.output .o0) ∧ bodyOf (ask 8 [4]) = [4] ∧ bindingOf 4 = none ∧ bindingOf 254 = none) ∧
    (HandsOver part .bind (ask 8 [255]) (.output .o0) ∧ bindingOf 255 = some none ∧ (part.output .o0).bound = none) ∧
    (HandsOver (running part []) .bind (ask 8 [255]) (.output .o0) ∧ ((running part []).output .o0).bound ≠ none) ∧
    (HandsOver part .bind (ask 8 [3]) (.output .o0) ∧ bindingOf 3 = some (some .p3) ∧ (part.output .o0).bound ≠ some .p3 ∧
      (part.path .p3).latched = none) ∧
    (HandsOver latched .bind (ask 8 [0]) (.output .o0) ∧ (latched.path .p0).latched = some 20000000 ∧ (latched.output .o0).line = none) ∧
    (HandsOver (onLine latched) .bind (ask 8 [0]) (.output .o0) ∧ ((onLine latched).path .p0).latched = some 20000000 ∧
      ((onLine latched).output .o0).line.isSome = true ∧ ((onLine latched).output .o0).bound ≠ some .p0) := by
  repeat' apply And.intro
  all_goals decide

theorem test_witness_SetUnitsPowersTheUnits :
    (HandsOver part .setUnits (ask 1 [0, 1]) .device ∧ bodyOf (ask 1 [0, 1]) = [0, 1] ∧ half2 0 1 &&& 0xE001 ≠ 0) ∧
    (HandsOver part .setUnits (ask 1 [0x1F, 0xFE]) .device ∧ half2 0x1F 0xFE &&& 0xE001 = 0) ∧
    ((State.reset.input .a).state = .off ∧ (State.reset.path .p0).state = .off ∧ (State.reset.output .o0).state = .off ∧
      (State.reset.output .o0).bound = none) ∧
    ((part.input .a).state ≠ .off ∧ (part.path .p0).state ≠ .off ∧ (part.output .o0).state ≠ .off) ∧
    (let s := (running (tuned .locked) []).modOutput .o0 (fun x => { x with state := .off })
     (s.output .o0).bound = some .p0 ∧ (s.output .o0).state = .off ∧ (s.path .p0).latched = none ∧ (s.output .o0).line = none ∧
      ((s.latchRate .p0).path .p0).latched = some 20000000 ∧ ((s.latchRate .p0).output .o0).state = .off ∧
      ((onLine (s.latchRate .p0)).output .o0).line.isSome = true) ∧
    ((part.input .a).mast = .off ∧ ((mastOn 0).input .a).mast ≠ .off) := by decide

theorem test_witness_GrantSetIsReplacedWhole :
    (HandsOver part .setGrants (ask 1 [255]) .device ∧ bodyOf (ask 1 [255]) = [255]) ∧
    (unitOf (askSp 1 [0]).unit = some .device ∧ (askSp 1 [0]).port = .sp) ∧ (held part).resetHeld = true ∧
    (part.modLink (fun l => { l with resetDue := true })).link.resetDue = true := by decide

theorem test_witness_DeviceSettingsAreStored :
    (HandsOver part .setLink (ask 1 [4]) .device ∧ 3 < (4 : Byte).toNat) ∧
    (HandsOver part .setLink (ask 1 [1]) .device ∧ speedOf 1 = some part.link.cpSpeed) ∧
    (HandsOver part .setLink (ask 1 [3]) .device ∧ speedOf 3 = some .b460800 ∧ LinkSpeed.b460800 ≠ part.link.cpSpeed) ∧
    (HandsOver part .clearScan (ask 1 []) .device ∧ part.device.scanList = []) ∧
    (let s := part.modDevice (fun d => d.find (scanEntryOf (aScan .frame) 30 aRecord))
     HandsOver s .clearScan (ask 1 []) .device ∧ s.device.scanList ≠ []) := by
  repeat' apply And.intro
  all_goals decide

theorem test_witness_SetReferenceFollowsTheTable :
    (HandsOver part .setReference (ask 1 [2]) .device ∧ 1 < (2 : Byte).toNat) ∧
    HandsOver (withReference .switching) .setReference (ask 1 [1]) .device ∧
    (HandsOver part .setReference (ask 1 [0]) .device ∧ part.device.reference = .internal ∧ part.device.extPresent = false) ∧
    (HandsOver (part.modDevice (fun d => { d with extPresent := true })) .setReference (ask 1 [1]) .device) ∧
    HandsOver (withReference .external) .setReference (ask 1 [1]) .device ∧
    HandsOver (withReference .fallback) .setReference (ask 1 [0]) .device := by
  repeat' apply And.intro
  all_goals decide

theorem test_witness_ResetUnitRestoresDefaults :
    HandsOver part .resetUnit (ask 3 []) (.input .b) ∧ HandsOver (tuned .halt) .resetUnit (ask 4 []) (.path .p0) ∧
    HandsOver part .resetUnit (ask 11 []) (.output .o3) := by decide

/-- A notice that waits. -/
def aNotice : NoticeRecord := { unit := .path .p0, detail := .pathState .fill .locked .filled, repeats := 0, overrun := false, timestamp := 0 }

theorem test_witness_FrameEndTakesReplyFirst :
    (part.link.tx.cp = some (replyAt .b115200) ∧ aReply.thenReset = false ∧ part.link.resetDue = false ∧ part.link.speedPending = []) ∧
    (replying 1).link.replies.cp = aReply :: [] ∧
    (part.link.replies.cp = [] ∧ (part.modLink (fun l => { l with notices := [aNotice] })).link.notices = aNotice :: []) ∧
    (part.link.tx.sp = some (replyAt .b57600) ∧ part.link.replies.sp = [] ∧ part.link.notices = []) ∧
    (let last : Sending := { frame := .reply { aReply with thenReset := true }, speed := .b115200 }
     (part.modLink (fun l => { l with tx := { l.tx with cp := some last } })).link.tx.cp = some last) := by decide

theorem test_witness_LinkSpeedChangesAtItsBoundary :
    let s := part.modLink (fun l => { l with tx := { l.tx with cp := none }, speedPending := [⟨.b57600, 0⟩] })
    s.resetHeld = false ∧ s.link.speedPending = ⟨.b57600, 0⟩ :: [] ∧ s.link.tx.cp = none := by decide

/-- At the boundary, and one reply before it, with a frame in progress or none. -/
theorem test_witness_LinkSpeedChangesAtItsBoundary_ahead :
    let s := fun n => (replying 1).modLink (fun l => { l with speedPending := [⟨.b57600, n⟩] })
    let idle := fun n => (s n).modLink (fun l => { l with tx := { l.tx with cp := none } })
    (s 0).resetHeld = false ∧ (s 0).link.tx.cp = some (replyAt .b115200) ∧ aReply.thenReset = false ∧ (s 0).link.resetDue = false ∧
    (s 0).link.speedPending = ⟨.b57600, 0⟩ :: [] ∧ (s 1).link.speedPending = ⟨.b57600, 1⟩ :: [] ∧
    (s 1).link.replies.cp = aReply :: [] ∧ (idle 0).link.heldAtBoundary = true ∧
    ((idle 1).link.tx.cp = none ∧ (idle 1).link.heldAtBoundary = false ∧ (idle 1).link.replies.cp = aReply :: []) ∧
    part.link.speedPending = [] := by decide

/-- 32 unsent notices, none of P0's. -/
def fullNotices : Link := { Link.initial with notices := List.replicate 32 { aNotice with unit := .path .p1 } }

theorem test_witness_OverrunLatchMarksTheNextDeparture :
    (fullNotices.notices.any (fun m => m.matches aNotice.unit aNotice.detail.cls) = false ∧ 32 ≤ fullNotices.notices.length) ∧
    fullNotices.notices.any (fun m => m.matches (.path .p1) aNotice.detail.cls) = true ∧ Link.initial.notices.length < 32 ∧
    (Link.initial.tx.cp = none ∧ Link.initial.heldAtBoundary = false ∧ Link.initial.replies.cp = []) ∧
    (part.modLink (fun l => { l with resetDue := true })).link.resetDue = true := by decide

theorem test_witness_RaisedNoticeMergesOrJoins :
    ((NoticeDetail.pathState .fill .locked .filled).cls ≠ .pathFault ∧
      ((part.setEnables (.path .p0) 0x000C).link.enables.get (.path .p0)).getLsbD NoticeClass.pathState.code = false) ∧
    (part.link.enables.get (.path .p0)).getLsbD NoticeClass.pathState.code = true ∧
    (fullNotices.notices.any (fun m => m.unit == .path .p1 && m.detail.cls == .pathState) = true) ∧
    (Link.initial.notices.any (fun m => m.unit == aNotice.unit && m.detail.cls == aNotice.detail.cls) = false) := by decide

theorem test_witness_ReferenceEventsFollowTheTable :
    part.device.reference ≠ .fallback ∧ part.device.reference = .internal ∧ (withReference .fallback).device.reference = .fallback ∧
    (withReference .external).device.reference = .external ∧
    ((withReference .switching).device.reference = .switching ∧ (withReference .switching).device.switchTimer.isSome = true) := by
  decide

theorem test_witness_InputsCalibrateAndCloseGainPeriods :
    ((calibrating.input .a).state = .calibrating ∧ (calibrating.input .a).calibrationTimer.isSome = true) ∧
    (part.resetHeld = false ∧ (part.input .a).state = .running ∧ 65535 ≤ 65535) ∧
    (runningInput.clipLimit < 5 ∧ 4 ≤ runningInput.clipLimit ∧ runningInput.high < 161 ∧ 95 < runningInput.low ∧
      runningInput.low ≤ 96 ∧ 160 ≤ runningInput.high) ∧
    (((tuned .search).path .p0).attachedTo = some .a ∧ ((tuned .search).path .p0).state ∈ [.search, .symbol, .frame, .scan]) ∧
    (63 ≠ (part.input .a).gain ∧ ((tuned .fill).path .p0).attachedTo = some .a ∧
      ((tuned .fill).path .p0).state ∈ [.fill, .locked, .holdover]) ∧
    (true ≠ (part.input .a).weak ∧ true ≠ (part.input .a).overload) := by decide

theorem test_witness_ImpulseBlanksTheSymbolsInProgress :
    ((part.input .a).state = .running ∧ (part.input .a).impulse = false ∧ 0 < (part.input .a).impulseThreshold ∧
      (part.input .a).impulseThreshold < (201 : Byte).toNat) ∧
    (((tuned .symbol).path .p0).hasTiming = true ∧ ((tuned .symbol).path .p0).symbol.blanked = false) ∧
    ((adrift.path .p0).hasTiming = false ∧ (((tuned .symbol).markBlanked .p0).path .p0).symbol.blanked = true) ∧
    (((tuned .symbol).path .p0).attachedTo = some .a ∧ ((tuned .symbol).input .a).impulse = false ∧
      (((tuned .symbol).modInput .a (fun x => { x with impulse := true })).input .a).impulse = true) := by decide

theorem test_witness_MastSupplyRetriesAndLocksOut :
    (((mastOn 4).input .a).mast = .on ∧ ((mastOn 4).input .a).retries < 5 ∧ ((mastOn 4).input .a).tripFreeTimer.isSome = true) ∧
    5 ≤ ((mastOn 5).input .a).retries ∧
    (let s := part.modInput .a (fun x => { x with mast := .tripped, retryTimer := some 2000 })
     (s.input .a).mast = .tripped ∧ (s.input .a).retryTimer.isSome = true) := by decide

theorem test_witness_TimingFoundInSearchEntersSymbol :
    Delivering (tuned .search) .p0 ∧ ((tuned .search).path .p0).state = .search := by decide

theorem test_witness_TimingFoundInHoldoverAndScan :
    (Delivering adrift .p0 ∧ (adrift.path .p0).state = .holdover ∧ (adrift.path .p0).holdTiming = false ∧
      (adrift.path .p0).sig = some { record := aRecord, unsupported := false } ∧ aRecord.symbolMode.toNat = modeCode .m8k ∧
      aRecord.guardFraction.toNat = guardCode .g8 ∧ aRecord.guardFraction.toNat ≠ guardCode .g4) ∧
    (Delivering (scanning .search) .p0 ∧ ((scanning .search).path .p0).scan = some (aScan .search)) := by decide

theorem test_witness_FrameStartMovesOn :
    (Delivering (tuned .symbol) .p0 ∧ ((tuned .symbol).path .p0).state = .symbol) ∧
    (let s := (tuned .holdover).modPath .p0 (fun x => { x with frameFound := false })
     Delivering s .p0 ∧ (s.path .p0).state = .holdover ∧ (s.path .p0).holdTiming = true ∧ (s.path .p0).frameFound = false) ∧
    (Delivering (scanning .symbol) .p0 ∧ ((scanning .symbol).path .p0).scan = some (aScan .symbol)) := by decide

theorem test_witness_RecordTakenInFrame :
    (Delivering (tuned .frame) .p0 ∧ ((tuned .frame).path .p0).state = .frame ∧ supportedRecord aRecord = true ∧
      supportedRecord { aRecord with depth := 4194304 } = true ∧ (tuned .frame).store.wait = [] ∧
      (700000 + 65535) / 65536 ≤ (tuned .frame).store.free.length) ∧
    ((tuned .frame).modStore (fun t => { t with free := t.free.take 10 })).store.free.length < (700000 + 65535) / 65536 ∧
    (Delivering (scanning .frame) .p0 ∧ ((scanning .frame).path .p0).scan = some (aScan .frame)) := by decide +kernel

theorem test_witness_RecordTakenWhileWaitingOrHolding :
    (Delivering (tuned .pageWait) .p0 ∧ ((tuned .pageWait).path .p0).sig = some { record := aRecord, unsupported := false } ∧
      ((tuned .pageWait).path .p0).comparesRecords = true ∧ (tuned .pageWait).waitedNeed .p0 = 11) ∧
    (aRecord.changeCount ≠ 6 ∧ supportedRecord { aRecord with changeCount := 6, depth := 65537 } = true) ∧
    (Delivering (tuned .fill) .p0 ∧ ((tuned .fill).path .p0).comparesRecords = true ∧ ((tuned .fill).path .p0).pages.length = 11 ∧
      (tuned .fill).store.wait = [] ∧ 64 - 11 ≤ (tuned .fill).store.free.length) ∧
    (Delivering (tuned .holdover) .p0 ∧ ((tuned .holdover).path .p0).comparesRecords = true) ∧
    (Delivering adrift .p0 ∧ (adrift.path .p0).state ∈ [.pageWait, .fill, .locked, .holdover] ∧ (adrift.path .p0).comparesRecords = false) ∧
    (let s := (tuned .locked).modPath .p0 (fun x => { x with frameFound := false })
     Delivering s .p0 ∧ (s.path .p0).state ∈ [.pageWait, .fill, .locked, .holdover] ∧ (s.path .p0).comparesRecords = false) := by decide

theorem test_witness_UnsupportedRecordFaultsThePath :
    (Delivering (tuned .frame) .p0 ∧ supportedRecord { aRecord with depth := 4194305 } = false ∧
      supportedRecord { aRecord with depth := 0 } = false ∧ ((tuned .frame).path .p0).state = .frame ∧
      ((tuned .frame).path .p0).fault.hold = false) ∧
    (let s := (tuned .locked).modPath .p0 (fun x => { x with fault := { x.fault with hold := true, primary := some .storeStall } })
     Delivering s .p0 ∧ (s.path .p0).comparesRecords = true ∧ (s.path .p0).changeCountDiffers { aRecord with changeCount := 6 } = true ∧
      (s.path .p0).fault.hold = true) := by decide

theorem test_witness_FillCompleteLocksThePath :
    Delivering (tuned .fill) .p0 ∧ ((tuned .fill).path .p0).state = .fill ∧
    ((tuned .fill).path .p0).sig = some { record := aRecord, unsupported := false } ∧
    ((tuned .fill).path .p0).tune = some aTune ∧ aTune.result = .pending ∧ (part.path .p0).tune = none ∧
    ({ aTune with result := .locked } : TuneRecord).result ≠ .pending := by decide

theorem test_witness_FillCompleteLocksThePath_outputs :
    (part.output .o0).bound ≠ some .p0 ∧
    (((running part []).output .o0).bound = some .p0 ∧ ((running part []).output .o0).state = .running) ∧
    (let s := fun st => (running part []).modOutput .o0 (fun x => { x with state := st })
     ((s .off).output .o0).state = .off ∧ ((s .silent).output .o0).state = .silent ∧ ((s .silent).output .o0).line = none ∧
      ((s .silent).output .o0).queue = [] ∧ ((onLine (s .silent)).output .o0).line.isSome = true ∧
      ((onLine (s .silent)).output .o0).state = .silent) ∧
    (let s := (running part [aPacket]).modOutput .o0 (fun x => { x with state := .silent })
     (s.output .o0).queue.length = 1 ∧ (s.output .o0).line = none ∧ (s.output .o0).bound = some .p0) := by decide

theorem test_witness_TimingLostByState :
    Delivering (tuned .symbol) .p0 ∧ Delivering (tuned .pageWait) .p0 ∧ Delivering (tuned .fill) .p0 ∧
    (Delivering (tuned .holdover) .p0 ∧ ((tuned .holdover).path .p0).holdTiming = true) ∧
    (Delivering (scanning .symbol) .p0 ∧ (aScan .symbol).phase ≠ .search) := by decide

theorem test_witness_TimingLostInLockedHoldsOver :
    (Delivering (tuned .locked) .p0 ∧ ((tuned .locked).path .p0).state = .locked) ∧
    ((adrift.path .p0).state = .holdover ∧ (adrift.path .p0).holdTiming = false) := by decide

theorem test_witness_PhaseTimersExpire :
    (((tuned .search).path .p0).searchTimer.isSome = true ∧ ((tuned .search).path .p0).tune = some aTune ∧ aTune.persist = false) ∧
    ((tuned .symbol).path .p0).symbolTimer.isSome = true ∧ ((tuned .frame).path .p0).frameTimer.isSome = true ∧
    (((scanning .search).path .p0).scan = some (aScan .search) ∧ ((scanning .search).path .p0).searchTimer.isSome = true) ∧
    (((scanning .symbol).path .p0).scan = some (aScan .symbol) ∧ ((scanning .symbol).path .p0).symbolTimer.isSome = true) ∧
    (((scanning .frame).path .p0).scan = some (aScan .frame) ∧ ((scanning .frame).path .p0).frameTimer.isSome = true) := by decide

theorem test_witness_ScanChannelsEnd :
    (aScan .frame).current < (aScan .frame).last ∧
    ({ aScan .frame with current := 34 } : ScanRecord).current = (aScan .frame).last ∧
    (let e := scanEntryOf (aScan .frame) 30 aRecord
     let d := part.device
     (∀ x ∈ List.replicate 64 { e with channel := 31 }, x.key ≠ e.key) ∧ 64 ≤ (List.replicate 64 e).length ∧ d.scanList.length < 64 ∧
      (∀ x ∈ d.scanList, x.key ≠ e.key) ∧ e.key ∈ (d.find e).scanList.map ScanEntry.key ∧
      (∃ x ∈ (d.find e).scanList, x.key = e.key)) ∧
    (12 < 1000 ∧ 48 < 1000) := by decide

theorem test_witness_HoldoverExpiryGivesUp :
    ((tuned .holdover).path .p0).state = .holdover ∧ ((tuned .holdover).path .p0).holdoverTimer.isSome = true ∧
    ((tuned .holdover).path .p0).tune = some aTune := by decide

theorem test_witness_EstimateRevisesTheTracker :
    (Delivering (tuned .locked) .p0 ∧ ((tuned .locked).path .p0).hasTiming = true) ∧
    (Delivering (scanning .symbol) .p0 ∧ ((scanning .symbol).path .p0).hasTiming = true) := by decide

theorem test_witness_EstimateRevisesTheTracker_window : ∃ t, exec (.estimate .p0 [⟨1, 0⟩]) (tuned .locked) = .next t ∧
    (t.path .p0).state = ((tuned .locked).path .p0).state ∧ ((tuned .locked).path .p0).receiveWindow = some (-167, 857) :=
  ⟨_, rfl, by decide, by decide⟩

/-- Entries at these delays, TENTATIVE, of attenuation 9, once at hits 3. -/
def anEntry (delay : Int) : EchoEntry := { delay, attenuation := 9, status := .tentative, hits := 3, age := 0 }

/-- Nine ticks apart, as they stand at the start of an estimate. -/
def workings (n : Nat) : List Working :=
  (List.range n).map (fun k => { start := some (9 * k), touched := false, entry := anEntry (9 * k) })

theorem test_witness_EstimateRevisesTheTracker_match :
    (∀ w ∈ workings 2, ∀ x ∈ w.start, 2 < ((12 : Int) - x).natAbs) ∧
    (let starts := ([⟨some 0, false, anEntry 0⟩, ⟨some 4, false, anEntry 4⟩] : List Working).filterMap Working.start
     starts.Pairwise (· < ·) ∧ 0 ∈ starts ∧ ((2 : Int) - 0).natAbs ≤ 2 ∧
      (∀ y ∈ starts, ((2 : Int) - 0).natAbs < ((2 : Int) - y).natAbs ∨ (((2 : Int) - 0).natAbs = ((2 : Int) - y).natAbs ∧ 0 ≤ y))) := by
  decide

theorem test_witness_EstimateRevisesTheTracker_table :
    ((workings 7).length < 8 ∧ 8 ≤ (workings 8).length ∧ weakestUntouched (workings 8) = some (anEntry 63) ∧
      (anEntry 63).attenuation ≤ (9 : Byte).toNat ∧ (8 : Byte).toNat < (anEntry 63).attenuation) ∧
    (∀ w ∈ (workings 8).map (fun w => { w with touched := true }), w.touched = true) ∧
    (6 ≤ 5 + 1 ∧ 4 + 1 < 6 ∧ 3 ≤ (anEntry 0).hits ∧ ({ anEntry 0 with hits := 2 } : EchoEntry).hits < 3) ∧
    ([anEntry 0, anEntry 3].Pairwise (fun a b => a.delay + 2 < b.delay) ∧
      ([anEntry 0] ++ [anEntry 3]).Pairwise (fun x y => x.delay + 2 < y.delay) ∧ (anEntry 3).delay ≤ (anEntry 5).delay ∧
      (anEntry 5).delay ≤ (anEntry 3).delay + 2) := by decide

theorem test_witness_EstimateRevisesTheTracker_anchor :
    ((104 : Int) - 100).natAbs ≤ PathConfig.initial.moveThreshold ∧ PathConfig.initial.moveThreshold < ((105 : Int) - 100).natAbs := by decide

theorem test_witness_PlacementChoosesTheTarget :
    spread [⟨0, 0, .confirmed, 3, 0⟩, ⟨1024, 9, .confirmed, 3, 0⟩] ≤ 1024 ∧
    ((1024 : Nat) : Int) < spread [⟨0, 0, .confirmed, 3, 0⟩, ⟨1025, 9, .confirmed, 3, 0⟩] ∧ (0 : Int) < 1025 ∧
    ([⟨0, 0, .confirmed, 3, 0⟩, ⟨1025, 9, .confirmed, 3, 0⟩] : List EchoEntry).Pairwise (fun a b => a.delay < b.delay) := by decide

theorem test_witness_WeightsFollowTheTable :
    (144 ≤ 155 ∧ 155 ≤ 155 ∧ weight 155 = 1 ∧ weight 156 = 0) ∧ spread [⟨0, 0, .confirmed, 3, 0⟩, ⟨1024, 9, .confirmed, 3, 0⟩] ≤ 1024 ∧
    (⟨9, 156, .confirmed, 3, 0⟩ : EchoEntry) ∈ relevantSet 156 [⟨0, 0, .confirmed, 3, 0⟩, ⟨9, 156, .confirmed, 3, 0⟩] := by decide

theorem test_witness_SymbolCloseFeedsTheWindow :
    (Delivering (tuned .fill) .p0 ∧ ((tuned .fill).path .p0).formsBursts = true ∧
      ((tuned .fill).path .p0).window = some { length := 64, counted := 0, unblanked := 0, sum := 0 }) ∧
    (Delivering (windowEnd .fill) .p0 ∧ ((windowEnd .fill).path .p0).formsBursts = true ∧ 64 ≤ 63 + 1) ∧
    (((windowEnd .locked).path .p0).formsBursts = true ∧ belowThreshold .initial (.mer 119) = true ∧
      belowThreshold .initial (.mer 120) = false) ∧
    (((windowEnd .holdover).path .p0).formsBursts = true ∧ recovered .initial (.mer 130) = true ∧
      recovered .initial (.mer 129) = false) ∧
    (Delivering (tuned .pageWait) .p0 ∧ ((tuned .pageWait).path .p0).hasTiming = true ∧ ((tuned .pageWait).path .p0).window = none) ∧
    (Delivering adrift .p0 ∧ (adrift.path .p0).hasTiming = false ∧ (adrift.path .p0).state = .holdover) ∧
    (Delivering (tuned .search) .p0 ∧ ((tuned .search).path .p0).hasTiming = false ∧ ((tuned .search).path .p0).state ≠ .holdover) ∧
    ((tuned .holdover).path .p0).sig = some ⟨aRecord, false⟩ := by
  decide

theorem test_witness_WindowResultIsTheRoundedRatio :
    (2 * 1 < 4 ∧ 4 ≤ 2 * 2) ∧ (0 < 655 ∧ 0 < 200 ∧ 200 ≤ 400 ∧ 200 ≤ merOf 655) ∧ ¬(201 ≤ merOf 655) := by decide +kernel

theorem test_witness_PacketsReachTheLine :
    (Delivering (tuned .locked) .p0 ∧ ((tuned .locked).path .p0).delivers = true ∧ ((tuned .holdover).path .p0).delivers = true) ∧
    (((running part []).output .o0).bound = some .p0 ∧ ((running part []).output .o0).state = .running ∧
      (part.output .o0).state ≠ .running) ∧
    (((running part (List.replicate 63 aPacket)).output .o0).queue.length < 64 ∧
      64 ≤ ((running part (List.replicate 64 aPacket)).output .o0).queue.length) ∧
    (((running part [aPacket]).output .o0).queue = aPacket :: [] ∧ ((running part []).output .o0).queue = []) ∧
    ((part.output .o0).line = none ∧ ((onLine part).output .o0).line = some ⟨aPacket, some 20000000⟩ ∧ aPacket.wf = true) := by
  decide +kernel

theorem test_witness_BurstsAndRefreshesAreServed :
    (let s := fun n => (tuned .fill).modPath .p0 (fun x => { x with staging := List.replicate n .write })
     ((s 7).path .p0).mayForm .read = true ∧ ((s 7).path .p0).staging.length < 8 ∧ 8 ≤ ((s 8).path .p0).staging.length ∧
      ((s 8).path .p0).symbol.discard = false ∧
      (((s 8).discardBurst .p0).path .p0).symbol.discard = true ∧ (((s 8).discardBurst .p0).path .p0).mayForm .read = true ∧
      (s 1).store.refreshPending < 4 ∧
      (roundFrom (s 1).store.lastGranted).find? (fun p => !((s 1).path p).staging.isEmpty) = some .p0 ∧
      ((s 1).path .p0).staging = .write :: []) ∧
    (part.store.service = .idle ∧ part.store.refreshPending = 0) ∧
    (let s := fun n => part.modStore (fun t => { t with service := .refresh, refreshPending := n })
     (s 4).store.service ≠ .idle ∧ 4 ≤ (s 4).store.refreshPending ∧ (s 3).store.refreshPending < 4 ∧ 0 < (s 3).store.refreshPending ∧
      ((s 3).path .p0).staging = []) := by decide

/-- In 8K four bursts are formed in a symbol, two of each direction (R106). -/
theorem test_witness_BurstsAndRefreshesAreServed_limit :
    let x := fun n => { (tuned .fill).path .p0 with symbol := { SymbolMarks.clear with writes := n } }
    (x 0).sig = some ⟨aRecord, false⟩ ∧ aRecord.symbolMode.toNat < 3 ∧ (x 1).mayForm .write = true ∧ (x 2).mayForm .write = false ∧
    (x 2).mayForm .read = true ∧ idlePath.sig = none ∧ (part.path .p0).mayForm .read = false := by decide

theorem test_witness_PagesMoveInOrder :
    part.store.wait = [] ∧ (tuned .pageWait).store.wait = ⟨.p0, 11⟩ :: [] ∧ 11 ≤ (tuned .pageWait).store.free.length ∧
    ((tuned .pageWait).modStore (fun t => { t with free := t.free.take 10 })).store.free.length < 11 ∧
    ((part.path .p0).pages = [] ∧ ((tuned .fill).path .p0).pages ≠ []) ∧
    ((∀ w ∈ part.store.wait, w.path ≠ .p0) ∧ (∃ w ∈ (tuned .pageWait).store.wait, w.path = .p0)) := by decide +kernel

/-- Where cells of P0's period lie: the last of the first page, the first of the second, the last, and one beyond (R95). -/
theorem test_witness_PagesMoveInOrder_cells :
    let x := (tuned .fill).path .p0
    (65535 < 65536 * x.pages.length ∧ 720895 < 65536 * x.pages.length ∧ 65536 * x.pages.length ≤ 720896 ∧ x.pages.length = 11) ∧
    (x.cellPlace 65535 = some (0, 65535) ∧ x.cellPlace 65536 = some (1, 0) ∧ x.cellPlace 720895 = some (10, 65535) ∧
      x.cellPlace 720896 = none) := by decide +kernel

/-- The state before a step that every invariant's statement speaks of. -/
def ready (s : State) : State := s.withPending [.refreshDue]

theorem ready_steps (s : State) : ∃ t, step (ready s) = .next t := ⟨_, rfl⟩

theorem test_witness_StepKeepsPagesPartitioned : PagesPartitioned (ready (tuned .locked)) ∧ ∃ t, step (ready (tuned .locked)) = .next t :=
  ⟨by unfold PagesPartitioned; decide, ready_steps _⟩

theorem holdingsMatch_part : HoldingsMatchStates (ready (tuned .pageWait)) := by
  refine ⟨by decide, ?_, ?_⟩ <;> intro p <;> cases p <;> decide

theorem enablesMatch_part : EnablesMatchStates (ready (tuned .pageWait)) := by
  refine ⟨?_, ?_, ?_⟩ <;> intro x <;> cases x <;> decide

theorem test_witness_StepKeepsHoldingsMatchingStates :
    HoldingsMatchStates (ready (tuned .pageWait)) ∧ ∃ t, step (ready (tuned .pageWait)) = .next t := ⟨holdingsMatch_part, ready_steps _⟩

theorem test_witness_StepKeepsEnablesMatchingStates :
    HoldingsMatchStates (ready (tuned .pageWait)) ∧ EnablesMatchStates (ready (tuned .pageWait)) ∧
      ∃ t, step (ready (tuned .pageWait)) = .next t := ⟨holdingsMatch_part, enablesMatch_part, ready_steps _⟩

theorem test_witness_StepKeepsTheLinkWellFormed :
    QueuesWellFormed (ready faulted) ∧ EnableSetsLegal (ready faulted) ∧ ∃ t, step (ready faulted) = .next t := by
  refine ⟨by unfold QueuesWellFormed; decide, ?_, ready_steps _⟩
  intro u
  rcases u with _ | i | p | o | _
  · decide
  · cases i <;> decide
  · cases p <;> decide
  · cases o <;> decide
  · decide

theorem test_witness_StepKeepsTheTablesOrdered :
    EchoTablesOrdered (ready (tuned .locked)) ∧ ScanListOrdered (ready (tuned .locked)) ∧ ∃ t, step (ready (tuned .locked)) = .next t := by
  refine ⟨?_, by unfold ScanListOrdered; decide, ready_steps _⟩
  intro p
  unfold EchoTableOrdered
  cases p <;> decide

end Sys2Proof.Tests
end

