-- ==== Sys2Proof/Proofs/Placement.lean ====
section
/-! The weight law of relevant arrivals (R61): the law itself, what the functions of placement (R60, R63, R64) do, and O49. -/

namespace Sys2Proof.Machine

open Sys2Proof

/-! ### The weight law (R61) -/

theorem weight_eq_div (a : Nat) : weight a = 4096 / 2 ^ (a / 12) := Nat.shiftRight_eq_div_pow 4096 (a / 12)

/-- The row of R61's table for the k-th whole 12 qdB. -/
theorem weight_of_band (k : Nat) {a : Nat} (lower : 12 * k ≤ a) (upper : a ≤ 12 * k + 11) : weight a = 4096 >>> k := by
  have band : a / 12 = k := by omega
  rw [weight, band]

/-- 4096 = 2 ^ 12, so the weight is gone after 13 halvings and not before. -/
theorem weight_eq_zero_iff (a : Nat) : weight a = 0 ↔ 156 ≤ a := by
  have gone : 2 ^ 12 < 2 ^ (a / 12) ↔ 12 < a / 12 := Nat.pow_lt_pow_iff_right (by decide)
  rw [weight_eq_div, Nat.div_eq_zero_iff_lt (by positivity)]
  omega

/-- 12 qdB (3 dB) more halve the weight. -/
theorem weight_add_twelve (a : Nat) : weight (a + 12) = weight a / 2 := by
  have next : (a + 12) / 12 = a / 12 + 1 := by omega
  rw [weight, weight, next, Nat.shiftRight_succ]

theorem weight_table (a : Nat) :
    (a ≤ 11 → weight a = 4096) ∧ (12 ≤ a → a ≤ 23 → weight a = 2048) ∧ (24 ≤ a → a ≤ 35 → weight a = 1024) ∧
    (36 ≤ a → a ≤ 47 → weight a = 512) ∧ (48 ≤ a → a ≤ 59 → weight a = 256) ∧ (60 ≤ a → a ≤ 71 → weight a = 128) ∧
    (72 ≤ a → a ≤ 83 → weight a = 64) ∧ (84 ≤ a → a ≤ 95 → weight a = 32) ∧ (96 ≤ a → a ≤ 107 → weight a = 16) ∧
    (108 ≤ a → a ≤ 119 → weight a = 8) ∧ (120 ≤ a → a ≤ 131 → weight a = 4) ∧ (132 ≤ a → a ≤ 143 → weight a = 2) ∧
    (144 ≤ a → a ≤ 155 → weight a = 1) ∧ (156 ≤ a → weight a = 0) :=
  ⟨weight_of_band 0 (Nat.zero_le a), weight_of_band 1, weight_of_band 2, weight_of_band 3, weight_of_band 4, weight_of_band 5,
    weight_of_band 6, weight_of_band 7, weight_of_band 8, weight_of_band 9, weight_of_band 10, weight_of_band 11, weight_of_band 12,
    (weight_eq_zero_iff a).mpr⟩

/-! ### The relevant set and its spread (R60) -/

@[simp] theorem mem_relevantSet {floor : Nat} {table : List EchoEntry} {e : EchoEntry} :
    e ∈ relevantSet floor table ↔ e ∈ table ∧ e.status = .confirmed ∧ e.attenuation ≤ floor := by
  simp [relevantSet]

theorem floor_of_relevant_weight_zero {floor : Nat} {table : List EchoEntry} {e : EchoEntry} (relevant : e ∈ relevantSet floor table)
    (weightless : weight e.attenuation = 0) : 156 ≤ floor := by
  obtain ⟨-, -, atOrBelow⟩ := mem_relevantSet.mp relevant
  exact ((weight_eq_zero_iff _).mp weightless).trans atOrBelow

@[simp] theorem lastDelay_append_singleton (es : List EchoEntry) (e : EchoEntry) : lastDelay (es ++ [e]) = e.delay := by
  induction es with
  | nil => rfl
  | cons x xs ih =>
    cases xs with
    | nil => rfl
    | cons y ys => exact ih

theorem spread_append_singleton (es : List EchoEntry) (e : EchoEntry) : spread (es ++ [e]) = e.delay - firstDelay (es ++ [e]) := by
  rw [spread, lastDelay_append_singleton]

/-! ### The fit case (R63) and the captured weight (R64) -/

theorem target_of_fits (g bias : Nat) (e : EchoEntry) (es : List EchoEntry) (fits : spread (e :: es) ≤ g) :
    target g bias (e :: es) = some (lastDelay (e :: es) + (((g : Int) - spread (e :: es)) * bias) / 8) := by
  have noSpill : spills g (e :: es) = false := by simp [spills, fits]
  simp [target, noSpill, fitTarget]

@[simp] theorem capturedWeight_cons (g : Nat) (e : EchoEntry) (es : List EchoEntry) (a : Int) : capturedWeight g (e :: es) a =
    (if a - g ≤ e.delay ∧ e.delay ≤ a then weight e.attenuation else 0) + capturedWeight g es a := by
  simp only [capturedWeight, List.filter_cons, Bool.and_eq_true, decide_eq_true_eq]
  split
  · rw [List.map_cons, List.sum_cons]
  · rw [Nat.zero_add]

@[simp] theorem capturedWeight_append (g : Nat) (es fs : List EchoEntry) (a : Int) :
    capturedWeight g (es ++ fs) a = capturedWeight g es a + capturedWeight g fs a := by
  simp [capturedWeight]

/-- An arrival of weight 0 captures nothing, wherever it stands and whether or not the window reaches it. -/
theorem capturedWeight_of_weight_zero (g : Nat) (es fs : List EchoEntry) (e : EchoEntry) (a : Int) (weightless : weight e.attenuation = 0) :
    capturedWeight g (es ++ e :: fs) a = capturedWeight g (es ++ fs) a := by
  simp [weightless]

/-- Settles O49: R61's law and table, and what an arrival of weight 0 does in the relevant set. -/
theorem weightsFollowTheTable : Obligations.WeightsFollowTheTable :=
  ⟨weight_eq_div, weight_table, weight_add_twelve, target_of_fits,
    fun _ _ _ inTable confirmed atOrBelow => mem_relevantSet.mpr ⟨inTable, confirmed, atOrBelow⟩,
    fun _ _ _ => floor_of_relevant_weight_zero, spread_append_singleton, capturedWeight_of_weight_zero⟩

end Sys2Proof.Machine
end

