-- ==== Sys2Proof/Proofs/LockSupervision.lean ====
section
/-! Symbol timing lost in LOCKED (R83): the entry to HOLDOVER, what stands still in HOLDOVER without timing, and O43. -/

namespace Sys2Proof.Machine

open Sys2Proof

/-! ### The three events, as operations of the state -/

theorem exec_symbolTimingLost (p : PathId) (s : State) : exec (.symbolTimingLost p) s = live s (timingLost p) := rfl

theorem exec_estimate (p : PathId) (observed : List Observation) (s : State) :
    exec (.estimate p observed) s = live s (estimateTaken p observed) := rfl

theorem exec_decodedPacket (p : PathId) (packet : Packet) (status : PacketStatus) (s : State) :
    exec (.decodedPacket p packet status) s = live s (packetDelivered p packet status) := rfl

/-- An operation that leaves the state as it is does so with the RESET pin held too. -/
theorem live_of_unchanged {s : State} {f : State → State} (unchanged : f s = s) : live s f = .next s := by
  simp [live, unchanged]

/-! ### The entry to HOLDOVER (R77, R83, R84) -/

/-- Only SEARCH and OFF clear the tracker, only SEARCH the record, and HOLDOVER takes the window and the symbol in progress as they are. -/
theorem Path.enter_holdover (x : Path) : x.enter .holdover =
    { x with
      state := .holdover, searchTimer := none, symbolTimer := none, frameTimer := none,
      holdoverTimer := some x.config.holdoverTime } := rfl

/-- A state that goes on delivering leaves the queues of the bound outputs alone (R127). -/
theorem State.enterPath_of_keeps_queues (s : State) (p : PathId) {new : PathState} (keeps : new.flushes = false) :
    s.enterPath p new = s.modPath p (fun x => x.enter new) := by
  simp [State.enterPath, keeps]

theorem State.movePath_of_keeps_queues (s : State) (p : PathId) {new : PathState} (reason : Reason) (keeps : new.flushes = false) :
    s.movePath p new reason =
      (s.modPath p (fun x => x.enter new)).raise (.path p) (.pathState (s.path p).state new reason) := by
  rw [State.movePath, State.enterPath_of_keeps_queues s p keeps]

theorem timingLost_of_locked {s : State} {p : PathId} (runs : s.stagesRun p = true) (locked : (s.path p).state = .locked) :
    timingLost p s = (s.modPath p Path.dropTiming).movePath p .holdover .timing := by
  simp only [State.path_eq] at locked
  simp [timingLost, runs, locked]

/-- The whole of what loss of timing in LOCKED does: one path written, one notice raised. -/
theorem timingLost_of_locked_eq {s : State} {p : PathId} (runs : s.stagesRun p = true) (locked : (s.path p).state = .locked) :
    timingLost p s =
      (s.modPath p (fun x => x.dropTiming.enter .holdover)).raise (.path p) (.pathState .locked .holdover .timing) := by
  have stillLocked : ((s.modPath p Path.dropTiming).path p).state = .locked := by simpa [Path.dropTiming] using locked
  have writtenOnce : (s.modPath p Path.dropTiming).modPath p (fun x => x.enter .holdover) =
      s.modPath p (fun x => x.dropTiming.enter .holdover) := by simp [State.modPath]
  rw [timingLost_of_locked runs locked, State.movePath_of_keeps_queues _ p .timing rfl, stillLocked, writtenOnce]

/-! ### HOLDOVER without timing (R48, R83, R89) -/

theorem Path.hasTiming_of_holdover {x : Path} (holdover : x.state = .holdover) : x.hasTiming = x.holdTiming := by
  simp [Path.hasTiming, holdover]

theorem Path.delivers_of_holdover {x : Path} (holdover : x.state = .holdover) : x.delivers = x.holdTiming := by
  simp [Path.delivers, holdover]

/-- A path without symbol timing processes no estimate (R48). -/
theorem estimateTaken_of_no_timing {s : State} {p : PathId} (observed : List Observation) (adrift : (s.path p).hasTiming = false) :
    estimateTaken p observed s = s :=
  if_neg fun ⟨timed, _⟩ => Bool.false_ne_true (adrift.symm.trans timed)

/-- The decoder of a path that delivers nothing reaches neither a counter nor an output (R89). -/
theorem packetDelivered_of_not_delivers {s : State} {p : PathId} (packet : Packet) (status : PacketStatus)
    (silent : (s.path p).delivers = false) : packetDelivered p packet status s = s :=
  if_neg (by rw [silent, Bool.false_and]; exact Bool.false_ne_true)

/-- Settles O43: the one write and the one notice of the entry to HOLDOVER, then the two events that find a path without timing idle. -/
theorem timingLostInLockedHoldsOver : Obligations.TimingLostInLockedHoldsOver := by
  intro s p ⟨released, runs⟩ locked
  refine ⟨timingLost p s, ?_, ?_⟩
  · rw [exec_symbolTimingLost, live_running released]
  · rw [timingLost_of_locked_eq runs locked]
    refine ⟨rfl, ?_, rfl, ⟨rfl, rfl, rfl, rfl, rfl, rfl, rfl⟩, fun u holdover untimed => ⟨fun observed => ?_, fun packet status => ?_⟩⟩
    · simp [Path.enter_holdover, Path.dropTiming]
    · have adrift : (u.path p).hasTiming = false := (Path.hasTiming_of_holdover holdover).trans untimed
      rw [exec_estimate, live_of_unchanged (estimateTaken_of_no_timing observed adrift)]
    · have silent : (u.path p).delivers = false := (Path.delivers_of_holdover holdover).trans untimed
      rw [exec_decodedPacket, live_of_unchanged (packetDelivered_of_not_delivers packet status silent)]

end Sys2Proof.Machine
end

