-- ==== Sys2Proof/Proofs/NoticeQueue.lean ====
section
/-! The notice queue and the overrun latch (R176, R177): what an offer and an idle CP transmitter do, case by case, the latch after each
reset of the part (R185), and O28. -/

namespace Sys2Proof.Machine

open Sys2Proof

/-! ### A record offered to the queue (R176, R177) -/

theorem Link.offer_of_unsent {l : Link} {n : NoticeRecord} (unsent : l.notices.any (fun m => m.matches n.unit n.detail.cls) = true) :
    l.offer n = { l with notices := l.notices.map (fun m => if m.matches n.unit n.detail.cls then m.merge n else m) } :=
  if_pos unsent

theorem Link.offer_of_room {l : Link} {n : NoticeRecord} (fresh : l.notices.any (fun m => m.matches n.unit n.detail.cls) = false)
    (room : l.notices.length < Config.noticeCap) : l.offer n = { l with notices := l.notices ++ [n] } := by
  simp only [Link.offer, fresh, Bool.false_eq_true, if_false, if_pos room]

theorem Link.offer_of_full {l : Link} {n : NoticeRecord} (fresh : l.notices.any (fun m => m.matches n.unit n.detail.cls) = false)
    (full : Config.noticeCap ≤ l.notices.length) : l.offer n = { l with overrun := true } := by
  simp only [Link.offer, fresh, Bool.false_eq_true, if_false, if_neg (Nat.not_lt.mpr full)]

/-- A record that merges or joins is not discarded, so the latch stays. -/
theorem Link.offer_keeps_overrun {l : Link} {n : NoticeRecord}
    (taken : l.notices.any (fun m => m.matches n.unit n.detail.cls) = true ∨ l.notices.length < Config.noticeCap) :
    (l.offer n).overrun = l.overrun := by
  cases unsent : l.notices.any (fun m => m.matches n.unit n.detail.cls) with
  | true => rw [Link.offer_of_unsent unsent]
  | false =>
    have room : l.notices.length < Config.noticeCap := taken.resolve_left (Bool.eq_false_iff.mp unsent)
    rw [Link.offer_of_room unsent room]

/-! ### The CP transmitter's next frame (R169, R177) -/

theorem Link.pumpCp_of_stays {l : Link} (stays : l.tx.cp ≠ none ∨ l.heldAtBoundary = true) : l.pumpCp = l :=
  if_pos (by simpa [Option.isSome_iff_ne_none] using stays)

theorem Link.pumpCp_of_reply {l : Link} {r : Reply} {rest : List Reply} (idle : l.tx.cp = none) (free : l.heldAtBoundary = false)
    (waiting : l.replies.cp = r :: rest) :
    l.pumpCp = { l with
      tx := { l.tx with cp := some { frame := .reply r, speed := l.cpSpeed } }, replies := { l.replies with cp := rest },
      speedPending := l.speedPending.map (fun q => { q with ahead := q.ahead - 1 }) } := by
  simp [Link.pumpCp, idle, free, waiting, Link.send, Ports.set, Link.portSpeed]

/-- R177: the notice takes the latch with it. -/
theorem Link.pumpCp_of_notice {l : Link} {n : NoticeRecord} {rest : List NoticeRecord} (idle : l.tx.cp = none)
    (free : l.heldAtBoundary = false) (noReply : l.replies.cp = []) (waiting : l.notices = n :: rest) :
    l.pumpCp = { l with
      notices := rest, overrun := false,
      tx := { l.tx with cp := some { frame := .notice { n with overrun := l.overrun }, speed := l.cpSpeed } } } := by
  simp [Link.pumpCp, idle, free, noReply, waiting, Link.send, Ports.set, Link.portSpeed]

theorem Link.pumpCp_of_nothing {l : Link} (noReply : l.replies.cp = []) (noNotice : l.notices = []) : l.pumpCp = l := by
  simp [Link.pumpCp, noReply, noNotice]

/-- Only a notice that leaves clears the latch: a frame in progress, a held boundary, a reply or an empty queue each prevent one. -/
theorem Link.pumpCp_keeps_overrun {l : Link}
    (noDeparture : l.tx.cp ≠ none ∨ l.heldAtBoundary = true ∨ l.replies.cp ≠ [] ∨ l.notices = []) :
    l.pumpCp.overrun = l.overrun := by
  by_cases stays : l.tx.cp ≠ none ∨ l.heldAtBoundary = true
  · rw [Link.pumpCp_of_stays stays]
  · obtain ⟨idle, free⟩ : l.tx.cp = none ∧ l.heldAtBoundary = false := by simpa using stays
    cases waiting : l.replies.cp with
    | cons r rest => rw [Link.pumpCp_of_reply idle free waiting]
    | nil =>
      have noNotice : l.notices = [] := by simpa [idle, free, waiting] using noDeparture
      rw [Link.pumpCp_of_nothing waiting noNotice]

/-! ### The latch after a reset of the part (R185) -/

@[simp] theorem State.powerOn_link (fitHigh refPresent : Bool) : (State.powerOn fitHigh refPresent).link = Link.initial := rfl

@[simp] theorem Link.initial_overrun : Link.initial.overrun = false := rfl

@[simp] theorem Link.deviceReset_overrun (l : Link) : l.deviceReset.overrun = false := rfl

@[simp] theorem Link.forgetReset_overrun (l : Link) : l.forgetReset.overrun = l.overrun := rfl

theorem exec_resetPinRelease (fitHigh refPresent : Bool) (s : State) :
    exec (.resetPinRelease fitHigh refPresent) s = .next (resetPinReleased fitHigh refPresent s) := rfl

theorem exec_deviceResetAction (s : State) : exec .deviceResetAction s = live s deviceResets := rfl

theorem resetPinReleased_link {s : State} (fitHigh refPresent : Bool) (held : s.resetHeld = true) :
    (resetPinReleased fitHigh refPresent s).link = Link.initial := by
  simp [resetPinReleased, held]

theorem deviceResets_link {s : State} (due : s.link.resetDue = true) :
    (deviceResets s).link = s.link.deviceReset.forgetReset := by
  simp [deviceResets, due]

theorem resetPinRelease_clears_overrun (s : State) (fitHigh refPresent : Bool) (held : s.resetHeld = true) :
    ∃ t, exec (.resetPinRelease fitHigh refPresent) s = .next t ∧ t.link.overrun = false :=
  ⟨_, exec_resetPinRelease fitHigh refPresent s, by rw [resetPinReleased_link fitHigh refPresent held, Link.initial_overrun]⟩

theorem deviceResetAction_clears_overrun (s : State) (released : s.resetHeld = false) (due : s.link.resetDue = true) :
    ∃ t, exec .deviceResetAction s = .next t ∧ t.link.overrun = false := by
  refine ⟨deviceResets s, ?_, ?_⟩
  · rw [exec_deviceResetAction, live_running released]
  · rw [deviceResets_link due, Link.forgetReset_overrun, Link.deviceReset_overrun]

/-- Settles O28: the latch after the three resets, then what an offer and a departure do to it. -/
theorem overrunLatchMarksTheNextDeparture : Obligations.OverrunLatchMarksTheNextDeparture :=
  ⟨fun _ _ => rfl, resetPinRelease_clears_overrun, deviceResetAction_clears_overrun,
    fun _ _ => Link.offer_of_full, fun _ _ => Link.offer_keeps_overrun,
    fun _ _ _ => Link.pumpCp_of_notice, fun _ => Link.pumpCp_keeps_overrun⟩

end Sys2Proof.Machine
end

