-- ==== Sys2Proof/Proofs/GrantSet.lean ====
section
/-! The grant set and SET_GRANTS (R181): who takes it and from which port, what it answers and writes, the set after each reset of the part
(R185), where GET_STATUS reports it (R186), and O23. -/

namespace Sys2Proof.Machine

open Sys2Proof

/-! ### Who takes SET_GRANTS, from which port, with what body (R165, R180) -/

theorem UnitId.kind_eq_device_iff (u : UnitId) : u.kind = .device ↔ u = .device := by
  cases u <;> simp [UnitId.kind]

theorem Verb.setGrants_takenBy_iff (u : UnitId) : Verb.setGrants.takenBy u = true ↔ u = .device := by
  rw [← UnitId.kind_eq_device_iff]
  simp [Verb.takenBy, Verb.takers]

theorem Verb.setGrants_allowsLength_iff (n : Nat) : Verb.setGrants.allowsLength n = true ↔ n = 1 := by
  simp [Verb.allowsLength]

/-- R180's check: the request names an enabled unit that takes the verb, but the service port may not use the verb there. -/
theorem dispatch_notGranted {s : State} {v : Verb} {r : Request} {u : UnitId} (names : unitOf r.unit = some u) (takes : v.takenBy u = true)
    (enabled : s.unitEnabled u = true) (fromService : r.port = .sp) (barred : (v.access u.kind).heldBy s.device.grants = false) :
    s.dispatch (some v) r = .inl .notGranted := by
  simp [State.dispatch, names, takes, enabled, fromService, barred]

/-- No grant opens SET_GRANTS to the service port, so the port cannot widen its own rights. -/
theorem dispatch_setGrants_of_sp (s : State) (r : Request) (names : unitOf r.unit = some .device) (fromService : r.port = .sp) :
    s.dispatch (some .setGrants) r = .inl .notGranted :=
  have takes : Verb.setGrants.takenBy .device = true := (Verb.setGrants_takenBy_iff _).mpr rfl
  dispatch_notGranted names takes rfl fromService rfl

/-! ### What it writes and answers (R181) -/

/-- The grant set replaced whole. -/
abbrev State.withGrants (s : State) (g : Byte) : State := s.modDevice (fun d => { d with grants := g })

/-- Nothing asks which pattern the byte has, and the answer is the set before the write. -/
theorem answer_setGrants {t : Taken} {g : Byte} (one : t.body = [g]) (s : State) :
    answer .setGrants t s = done [s.device.grants] (s.withGrants g) := by
  simp [answer, answerSetGrants, one]

theorem State.withGrants_same (s : State) : s.withGrants s.device.grants = s := rfl

theorem State.withGrants_link (s : State) (g : Byte) : (s.withGrants g).link = s.link := s.modDevice_link _

theorem setGrants_takenWith (s : State) (r : Request) (g : Byte) (reaches : HandsOver s .setGrants r .device) (one : bodyOf r = [g]) :
    TakenWith .setGrants s r .device .ok [s.device.grants] (fun s => s.withGrants g) := by
  have answers := answer_setGrants (t := takenOf r .device) one
  have sameSet : (s.hunt r.port).device.grants = s.device.grants := rfl
  refine takenWith_of_answer reaches rfl ?_ (fun frame => ?_)
  · rw [answers, sameSet, done]
  · rw [answers, done]

/-! ### The set after each reset of the part (R185) -/

@[simp] theorem State.powerOn_device (fitHigh refPresent : Bool) :
    (State.powerOn fitHigh refPresent).device = Device.initial refPresent := rfl

@[simp] theorem Device.initial_grants (refPresent : Bool) : (Device.initial refPresent).grants = 0 := rfl

theorem resetPinReleased_device {s : State} (fitHigh refPresent : Bool) (held : s.resetHeld = true) :
    (resetPinReleased fitHigh refPresent s).device = Device.initial refPresent := by
  simp [resetPinReleased, held]

theorem deviceResets_device {s : State} (due : s.link.resetDue = true) :
    (deviceResets s).device = Device.initial s.device.extPresent := by
  simp [deviceResets, due]

theorem resetPinRelease_empties_grants (s : State) (fitHigh refPresent : Bool) (held : s.resetHeld = true) :
    ∃ t, exec (.resetPinRelease fitHigh refPresent) s = .next t ∧ t.device.grants = 0 :=
  ⟨_, exec_resetPinRelease fitHigh refPresent s, by rw [resetPinReleased_device fitHigh refPresent held, Device.initial_grants]⟩

theorem deviceResetAction_empties_grants (s : State) (released : s.resetHeld = false) (due : s.link.resetDue = true) :
    ∃ t, exec .deviceResetAction s = .next t ∧ t.device.grants = 0 := by
  refine ⟨deviceResets s, ?_, ?_⟩
  · rw [exec_deviceResetAction, live_running released]
  · rw [deviceResets_device due, Device.initial_grants]

/-! ### Where GET_STATUS reports it (R186) -/

/-- A 16-bit field takes bytes 0 and 1. -/
theorem getElem?_two_half_append_byte (h : Half) (b : Byte) (bs : List Byte) : (half h ++ ([b] ++ bs))[2]? = some b := rfl

/-- It follows the unit-enable set. -/
theorem deviceStatus_grants (s : State) (port : Port) : (s.deviceStatus port)[2]? = some s.device.grants := by
  simp only [State.deviceStatus, List.append_assoc, getElem?_two_half_append_byte]

/-- Settles O23: who takes SET_GRANTS, what it writes and answers, the set after the three resets, and its place in GET_STATUS. -/
theorem grantSetIsReplacedWhole : Obligations.GrantSetIsReplacedWhole :=
  ⟨Verb.setGrants_takenBy_iff, dispatch_setGrants_of_sp, Verb.setGrants_allowsLength_iff, setGrants_takenWith,
    State.withGrants_same, State.withGrants_link, fun _ _ => by rw [State.powerOn_device, Device.initial_grants],
    resetPinRelease_empties_grants, deviceResetAction_empties_grants, deviceStatus_grants⟩

end Sys2Proof.Machine
end

section
/-! What every operation of the part keeps. `Still` says that an operation touches nothing the invariants speak of, `Lawful` that it keeps
the pages partitioned, the tables ordered and the link block within its bounds, whatever the states of the paths. Both compose. -/

namespace Sys2Proof.Machine

open Sys2Proof

/-! ### Sorted insertion -/

/-- Insertion before the first element that is strictly greater keeps a list in order. -/
theorem orderedInsert_pairwise {α : Type} {lt le : α → α → Prop} [DecidableRel lt] (trans : ∀ a b c, le a b → le b c → le a c)
    (below : ∀ a b, lt a b → le a b) (above : ∀ a b, ¬lt a b → le b a) (a : α) :
    ∀ l : List α, l.Pairwise le → (l.orderedInsert lt a).Pairwise le
  | [], _ => by simp
  | b :: l, sorted => by
    obtain ⟨first, rest⟩ := List.pairwise_cons.mp sorted
    rw [List.orderedInsert]
    split
    · rename_i less
      refine List.pairwise_cons.mpr ⟨fun c mem => ?_, sorted⟩
      rcases List.mem_cons.mp mem with rfl | mem
      · exact below a c less
      · exact trans a b c (below a b less) (first c mem)
    · rename_i notLess
      refine List.pairwise_cons.mpr ⟨fun c mem => ?_, orderedInsert_pairwise trans below above a l rest⟩
      rcases List.mem_cons.mp ((List.perm_orderedInsert lt a l).mem_iff.mp mem) with rfl | mem
      · exact above c b notLess
      · exact first c mem

/-- Insertions one after another into an ordered list give an ordered permutation. -/
theorem foldl_orderedInsert {α : Type} {lt le : α → α → Prop} [DecidableRel lt] (trans : ∀ a b c, le a b → le b c → le a c)
    (below : ∀ a b, lt a b → le a b) (above : ∀ a b, ¬lt a b → le b a) :
    ∀ l acc : List α, acc.Pairwise le → (l.foldl (fun acc a => acc.orderedInsert lt a) acc).Pairwise le ∧
      (l.foldl (fun acc a => acc.orderedInsert lt a) acc).Perm (l ++ acc)
  | [], _, sorted => ⟨sorted, .refl _⟩
  | a :: l, acc, sorted => by
    obtain ⟨ordered, perm⟩ := foldl_orderedInsert trans below above l _ (orderedInsert_pairwise trans below above a acc sorted)
    exact ⟨ordered, perm.trans (((List.perm_orderedInsert lt a acc).append_left l).trans List.perm_middle)⟩

theorem insertEntry_eq (e : EchoEntry) (es : List EchoEntry) :
    insertEntry e es = es.orderedInsert (fun a b => a.delay < b.delay) e := by
  induction es with
  | nil => rfl
  | cons x xs ih => simp [insertEntry, ih]

theorem insertObservation_eq (o : Observation) (os : List Observation) :
    insertObservation o os = os.orderedInsert (fun a b => a.delay < b.delay) o := by
  induction os with
  | nil => rfl
  | cons x xs ih => simp [insertObservation, ih]

/-- The entries in ascending order of delay (R58). -/
theorem sortEntries_sorted_perm (es : List EchoEntry) :
    (sortEntries es).Pairwise (fun a b => a.delay ≤ b.delay) ∧ (sortEntries es).Perm es := by
  simpa [sortEntries, insertEntry_eq] using foldl_orderedInsert (lt := fun a b : EchoEntry => a.delay < b.delay)
    (le := fun a b => a.delay ≤ b.delay) (fun _ _ _ => le_trans) (fun _ _ => le_of_lt) (fun _ _ => le_of_not_gt) es [] .nil

theorem sortObservations_sorted_perm (os : List Observation) :
    (sortObservations os).Pairwise (fun a b => a.delay ≤ b.delay) ∧ (sortObservations os).Perm os := by
  simpa [sortObservations, insertObservation_eq] using foldl_orderedInsert (lt := fun a b : Observation => a.delay < b.delay)
    (le := fun a b => a.delay ≤ b.delay) (fun _ _ _ => le_trans) (fun _ _ => le_of_lt) (fun _ _ => le_of_not_gt) os [] .nil

/-! ### Order and merge (R58) -/

/-- A combined entry lies where one of its members lies. -/
theorem combine_delay (a b : EchoEntry) : (combine a b).delay = a.delay ∨ (combine a b).delay = b.delay := by
  simp only [combine, combineLeader]
  split_ifs <;> simp

theorem combineFrom_length (a : EchoEntry) (es : List EchoEntry) : (combineFrom a es).length ≤ es.length + 1 := by
  induction es generalizing a with
  | nil => simp [combineFrom]
  | cons b es ih =>
    rw [combineFrom]
    split
    · exact (ih _).trans (by simp)
    · simpa using ih b

/-- Combining from `a` on leaves entries more than 2 ticks apart, none of them before `a`. -/
theorem combineFrom_apart (a : EchoEntry) (es : List EchoEntry) (sorted : (a :: es).Pairwise (fun x y => x.delay ≤ y.delay)) :
    (combineFrom a es).Pairwise (fun x y => x.delay + Config.matchTicks < y.delay) ∧ ∀ e ∈ combineFrom a es, a.delay ≤ e.delay := by
  induction es generalizing a with
  | nil => simp [combineFrom]
  | cons b es ih =>
    obtain ⟨first, rest⟩ := List.pairwise_cons.mp sorted
    have ab : a.delay ≤ b.delay := first b List.mem_cons_self
    rw [combineFrom]
    split
    · have between : a.delay ≤ (combine a b).delay ∧ (combine a b).delay ≤ b.delay := by
        rcases combine_delay a b with h | h <;> omega
      obtain ⟨below, rest⟩ := List.pairwise_cons.mp rest
      obtain ⟨apart, after⟩ := ih (combine a b)
        (List.pairwise_cons.mpr ⟨fun c mem => between.2.trans (below c mem), rest⟩)
      exact ⟨apart, fun e mem => between.1.trans (after e mem)⟩
    · rename_i far
      obtain ⟨apart, after⟩ := ih b rest
      refine ⟨List.pairwise_cons.mpr ⟨fun e mem => ?_, apart⟩, fun e mem => ?_⟩
      · have := after e mem
        omega
      · rcases List.mem_cons.mp mem with rfl | mem
        · exact le_rfl
        · exact ab.trans (after e mem)

/-- Step 6 keeps a table of at most 8 entries lawful, whatever order they came in (R46, R58). -/
theorem orderAndMerge_ordered (es : List EchoEntry) (bound : es.length ≤ Config.echoCap) : EchoTableOrdered (orderAndMerge es) := by
  obtain ⟨sorted, perm⟩ := sortEntries_sorted_perm es
  rw [← perm.length_eq] at bound
  unfold orderAndMerge
  generalize sortEntries es = l at sorted bound
  cases l with
  | nil => simp [mergeClose, EchoTableOrdered]
  | cons e l =>
    exact ⟨(combineFrom_length e l).trans (by simpa using bound), (combineFrom_apart e l sorted).1⟩

theorem EchoTableOrdered.nil : EchoTableOrdered [] := ⟨Nat.zero_le _, .nil⟩

theorem matchOne_length (acc : List Working × List Observation) (o : Observation) : (matchOne acc o).1.length = acc.1.length := by
  unfold matchOne
  split <;> simp

theorem foldl_matchOne_length (os : List Observation) (acc : List Working × List Observation) :
    (os.foldl matchOne acc).1.length = acc.1.length := by
  induction os generalizing acc with
  | nil => rfl
  | cons o os ih => rw [List.foldl_cons, ih, matchOne_length]

/-- One step of the search for the weakest untouched entry (R55). -/
def weakestStep (best : Option EchoEntry) (w : Working) : Option EchoEntry :=
  if w.touched then best
  else match best with
    | none => some w.entry
    | some b => if weaker w.entry b then some w.entry else some b

theorem weakestUntouched_eq (ws : List Working) : weakestUntouched ws = ws.foldl weakestStep none := rfl

theorem weakestStep_touched (best : Option EchoEntry) {w : Working} (touched : w.touched = true) : weakestStep best w = best := by
  simp [weakestStep, touched]

theorem weakestStep_first {w : Working} (untouched : w.touched = false) : weakestStep none w = some w.entry := by
  simp [weakestStep, untouched]

theorem weakestStep_next (b : EchoEntry) {w : Working} (untouched : w.touched = false) :
    weakestStep (some b) w = some (if weaker w.entry b then w.entry else b) := by
  simp only [weakestStep, untouched]
  split_ifs <;> simp_all

/-- What the search for the weakest finds is untouched and in the list, or was there before (R55). -/
theorem foldl_weakestStep_mem (ws : List Working) (best : Option EchoEntry) (e : EchoEntry)
    (found : ws.foldl weakestStep best = some e) : best = some e ∨ ∃ w ∈ ws, w.touched = false ∧ w.entry = e := by
  induction ws generalizing best with
  | nil => exact .inl found
  | cons w ws ih =>
    rcases ih _ found with h | ⟨v, mem, h⟩
    · cases touched : w.touched with
      | true => exact .inl (weakestStep_touched best touched ▸ h)
      | false =>
        cases best with
        | none =>
          rw [weakestStep_first touched] at h
          exact .inr ⟨w, List.mem_cons_self, touched, Option.some.inj h⟩
        | some b =>
          rw [weakestStep_next b touched] at h
          split at h
          · exact .inr ⟨w, List.mem_cons_self, touched, Option.some.inj h⟩
          · exact .inl h
    · exact .inr ⟨v, List.mem_cons_of_mem w mem, h⟩

theorem weakestUntouched_mem {ws : List Working} {e : EchoEntry} (found : weakestUntouched ws = some e) :
    ∃ w ∈ ws, w.touched = false ∧ w.entry = e :=
  (foldl_weakestStep_mem ws none e found).resolve_left nofun

/-- A newcomer never takes the table past 8 entries: at 8 it displaces one (R55). -/
theorem insertNewcomer_length (ws : List Working) (o : Observation) (bound : ws.length ≤ Config.echoCap) :
    (insertNewcomer ws o).length ≤ Config.echoCap := by
  unfold insertNewcomer
  simp only
  split
  · rename_i room
    simpa using room
  · split
    · exact bound
    · rename_i e found
      split
      · obtain ⟨w, mem, untouched, rfl⟩ := weakestUntouched_mem found
        have shorter : (ws.filter (fun v => v.touched || v.entry != w.entry)).length < ws.length :=
          List.length_filter_lt_length_iff_exists.mpr ⟨w, mem, by simp [untouched]⟩
        rw [List.length_append, List.length_singleton]
        omega
      · exact bound

theorem foldl_insertNewcomer_length (os : List Observation) (ws : List Working) (bound : ws.length ≤ Config.echoCap) :
    (os.foldl insertNewcomer ws).length ≤ Config.echoCap := by
  induction os generalizing ws with
  | nil => exact bound
  | cons o os ih => exact ih _ (insertNewcomer_length ws o bound)

/-- An estimate leaves the table lawful (R46, R52 to R58). -/
theorem revisedTable_ordered (fade : Nat) (table : List EchoEntry) (observed : List Observation) (before : EchoTableOrdered table) :
    EchoTableOrdered (revisedTable fade table observed) := by
  refine orderAndMerge_ordered _ ?_
  rw [List.length_map]
  refine (List.length_filterMap_le _ _).trans (foldl_insertNewcomer_length _ _ ?_)
  rw [foldl_matchOne_length, List.length_map]
  exact before.1

/-- Seeding leaves the table lawful (R59). -/
theorem seedTracker_ordered (cfg : PathConfig) (origin : TimingOrigin) (coarse : List Observation) :
    EchoTableOrdered (seedTracker cfg origin coarse).table := by
  refine orderAndMerge_ordered _ ?_
  rw [List.length_map, keptAtSeeding]
  exact List.length_take_le _ _

/-! ### The scan result list (R139 to R141) -/

/-- Ascending order of the key. -/
abbrev KeysAscend (l : List ScanEntry) : Prop := l.Pairwise (fun a b => a.key < b.key)

theorem insertScan_mem {e x : ScanEntry} {l : List ScanEntry} (mem : x ∈ insertScan e l) : x = e ∨ x ∈ l := by
  induction l with
  | nil => simpa [insertScan] using mem
  | cons y l ih =>
    rw [insertScan] at mem
    split at mem
    · rcases List.mem_cons.mp mem with rfl | mem
      · exact .inl rfl
      · exact .inr (List.mem_cons_of_mem y mem)
    · split at mem
      · exact List.mem_cons.mp mem
      · rcases List.mem_cons.mp mem with rfl | mem
        · exact .inr List.mem_cons_self
        · exact (ih mem).imp_right (List.mem_cons_of_mem y)

theorem insertScan_ascend (e : ScanEntry) (l : List ScanEntry) (ascend : KeysAscend l) : KeysAscend (insertScan e l) := by
  induction l with
  | nil => simp [insertScan]
  | cons y l ih =>
    obtain ⟨first, rest⟩ := List.pairwise_cons.mp ascend
    rw [insertScan]
    split
    · rename_i same
      exact List.pairwise_cons.mpr ⟨fun x mem => same ▸ first x mem, rest⟩
    · split
      · rename_i less
        refine List.pairwise_cons.mpr ⟨fun x mem => ?_, ascend⟩
        rcases List.mem_cons.mp mem with rfl | mem
        · exact less
        · exact less.trans (first x mem)
      · refine List.pairwise_cons.mpr ⟨fun x mem => ?_, ih rest⟩
        rcases insertScan_mem mem with rfl | mem
        · omega
        · exact first x mem

theorem insertScan_length_le (e : ScanEntry) (l : List ScanEntry) : (insertScan e l).length ≤ l.length + 1 := by
  induction l with
  | nil => simp [insertScan]
  | cons y l ih =>
    rw [insertScan]
    split_ifs <;> simp [ih]

/-- An entry whose key stands in an ordered list replaces the one that has it. -/
theorem insertScan_length_of_held (e : ScanEntry) (l : List ScanEntry) (ascend : KeysAscend l) (held : ∃ x ∈ l, x.key = e.key) :
    (insertScan e l).length = l.length := by
  induction l with
  | nil => simp at held
  | cons y l ih =>
    obtain ⟨first, rest⟩ := List.pairwise_cons.mp ascend
    rw [insertScan]
    split
    · simp
    · rename_i other
      obtain ⟨x, mem, same⟩ := held
      have mem : x ∈ l := (List.mem_cons.mp mem).resolve_left (by rintro rfl; exact other same.symm)
      rw [if_neg (by have := first x mem; omega)]
      simpa using ih rest ⟨x, mem, same⟩

/-- A lawful scan result list. -/
def ScanLawful (l : List ScanEntry) : Prop := l.length ≤ Config.scanCap ∧ KeysAscend l

theorem scanListOrdered_iff (s : State) : ScanListOrdered s ↔ ScanLawful s.device.scanList := Iff.rfl

theorem Device.find_scanLawful (d : Device) (e : ScanEntry) (lawful : ScanLawful d.scanList) : ScanLawful (d.find e).scanList := by
  unfold Device.find
  split
  · rename_i takes
    refine ⟨?_, insertScan_ascend e _ lawful.2⟩
    rcases (Bool.or_eq_true _ _).mp takes with held | room
    · have held : ∃ x ∈ d.scanList, x.key = e.key := by simpa using held
      exact (insertScan_length_of_held e _ lawful.2 held).trans_le lawful.1
    · exact (insertScan_length_le e _).trans (by simpa using room)
  · exact lawful

theorem Device.removeChannel_scanLawful (d : Device) (key : Nat) (lawful : ScanLawful d.scanList) :
    ScanLawful (d.removeChannel key).scanList := by
  unfold Device.removeChannel
  split
  · exact ⟨(List.length_filter_le _ _).trans lawful.1, lawful.2.filter _⟩
  · exact lawful

theorem Device.clearScan_scanLawful (d : Device) (lawful : ScanLawful d.scanList) : ScanLawful d.clearScan.scanList := by
  unfold Device.clearScan
  split
  · exact lawful
  · exact ⟨Nat.zero_le _, .nil⟩

end Sys2Proof.Machine
end

section
/-! The link block's bounds, and the two relations `Lawful` and `Still` between a state and the one an operation leaves. -/

namespace Sys2Proof.Machine

open Sys2Proof

/-! ### The link block within bounds -/

/-- No two unsent notices of one unit and class (R176). -/
abbrev NoticesDistinct (l : List NoticeRecord) : Prop := l.Pairwise (fun m n => ¬(m.unit = n.unit ∧ m.detail.cls = n.detail.cls))

/-- A notice-enable set with the unmaskable classes set and the unused bits clear (R172). -/
abbrev LegalSet (e : Half) : Prop := e &&& 0xFC0C = 0x000C

/-- The notice queue is lawful, the reply queues hold at most `c` and `k` replies, every enable set is legal (R168, R172, R176). -/
structure LinkWithin (c k : Nat) (l : Link) : Prop where
  notices : l.notices.length ≤ Config.noticeCap
  distinct : NoticesDistinct l.notices
  cp : l.replies.cp.length ≤ c
  sp : l.replies.sp.length ≤ k
  enables : ∀ u, LegalSet (l.enables.get u)

theorem linkWithin_iff (s : State) : LinkWithin Config.replyCap Config.replyCap s.link ↔ QueuesWellFormed s ∧ EnableSetsLegal s :=
  ⟨fun ⟨n, d, c, k, e⟩ => ⟨⟨n, d, c, k⟩, e⟩, fun ⟨⟨n, d, c, k⟩, e⟩ => ⟨n, d, c, k, e⟩⟩

theorem NoticeRecord.matches_iff (m : NoticeRecord) (u : UnitId) (c : NoticeClass) :
    m.matches u c = true ↔ m.unit = u ∧ m.detail.cls = c := by
  simp [NoticeRecord.matches]

theorem LinkWithin.offer {c k : Nat} {l : Link} (h : LinkWithin c k l) (n : NoticeRecord) : LinkWithin c k (l.offer n) := by
  unfold Link.offer
  split
  · refine ⟨by simpa using h.notices, List.pairwise_map.mpr (h.distinct.imp fun {a b} apart => ?_), h.cp, h.sp, h.enables⟩
    have keeps (m : NoticeRecord) : (if m.matches n.unit n.detail.cls then m.merge n else m).unit = m.unit ∧
        (if m.matches n.unit n.detail.cls then m.merge n else m).detail.cls = m.detail.cls := by
      split
      · rename_i matched
        exact ⟨rfl, ((m.matches_iff _ _).mp matched).2.symm⟩
      · exact ⟨rfl, rfl⟩
    rw [(keeps a).1, (keeps a).2, (keeps b).1, (keeps b).2]
    exact apart
  · rename_i fresh
    split
    · rename_i room
      refine ⟨by simpa using room, List.pairwise_append.mpr ⟨h.distinct, List.pairwise_singleton _ _, ?_⟩, h.cp, h.sp, h.enables⟩
      intro m mem x single same
      rw [List.mem_singleton.mp single] at same
      exact fresh (List.any_eq_true.mpr ⟨m, mem, (m.matches_iff _ _).mpr same⟩)
    · exact ⟨h.notices, h.distinct, h.cp, h.sp, h.enables⟩

theorem LinkWithin.pumpCp {c k : Nat} {l : Link} (h : LinkWithin c k l) : LinkWithin c k l.pumpCp := by
  unfold Link.pumpCp
  split
  · exact h
  · split
    · rename_i r rest waiting
      have shorter := h.cp
      rw [waiting] at shorter
      exact ⟨h.notices, h.distinct, (Nat.le_succ _).trans shorter, h.sp, h.enables⟩
    · split
      · rename_i n rest waiting
        have shorter := h.notices
        have apart := h.distinct
        rw [waiting] at shorter apart
        exact ⟨(Nat.le_succ _).trans shorter, apart.tail, h.cp, h.sp, h.enables⟩
      · exact h

theorem LinkWithin.pumpSp {c k : Nat} {l : Link} (h : LinkWithin c k l) : LinkWithin c k l.pumpSp := by
  unfold Link.pumpSp
  split
  · exact h
  · split
    · rename_i r rest waiting
      have shorter := h.sp
      rw [waiting] at shorter
      exact ⟨h.notices, h.distinct, h.cp, (Nat.le_succ _).trans shorter, h.enables⟩
    · exact h

theorem LinkWithin.pump {c k : Nat} {l : Link} (h : LinkWithin c k l) (p : Port) : LinkWithin c k (l.pump p) := by
  cases p with
  | cp => exact h.pumpCp
  | sp => exact h.pumpSp

theorem LinkWithin.raise {c k : Nat} {l : Link} (h : LinkWithin c k l) (uptime : Word) (u : UnitId) (d : NoticeDetail) :
    LinkWithin c k (l.raise uptime u d) := by
  unfold Link.raise
  split
  · exact (h.offer _).pumpCp
  · exact h

/-- A reply joins a queue with room for it. -/
theorem LinkWithin.reply {c k c' k' : Nat} {l : Link} (h : LinkWithin c k l) (p : Port) (r : Reply) (cp : c ≤ c') (sp : k ≤ k')
    (room : (l.replies.get p).length + 1 ≤ (match p with
      | .cp => c'
      | .sp => k')) : LinkWithin c' k' (l.reply p r) := by
  refine LinkWithin.pump ?_ p
  cases p with
  | cp => exact ⟨h.notices, h.distinct, by simpa [Ports.set, Ports.get] using room, h.sp.trans sp, h.enables⟩
  | sp => exact ⟨h.notices, h.distinct, h.cp.trans cp, by simpa [Ports.set, Ports.get] using room, h.enables⟩

theorem PerUnit.get_set_ne {α : Type} (t : PerUnit α) {u v : UnitId} (x : α) (other : v ≠ u) : (t.set u x).get v = t.get v := by
  rcases u with _ | (_ | _) | (_ | _ | _ | _) | (_ | _ | _ | _) | _ <;>
    rcases v with _ | (_ | _) | (_ | _ | _ | _) | (_ | _ | _ | _) | _ <;> first | rfl | exact absurd rfl other

theorem LinkWithin.setEnables {c k : Nat} {l : Link} (h : LinkWithin c k l) (u : UnitId) (e : Half) (legal : LegalSet e) :
    LinkWithin c k { l with enables := l.enables.set u e } := by
  refine ⟨h.notices, h.distinct, h.cp, h.sp, fun v => ?_⟩
  by_cases same : v = u
  · subst same
    simpa using legal
  · simpa [PerUnit.get_set_ne _ _ same] using h.enables v

/-- The link block as it stands after power-on. -/
theorem Link.initial_within (c k : Nat) : LinkWithin c k Link.initial :=
  ⟨Nat.zero_le _, .nil, Nat.zero_le _, Nat.zero_le _, fun u => by
    have all : Link.initial.enables.get u = 0x03FF := PerUnit.get_all _ u
    rw [all]
    rfl⟩

/-! ### The legal sets (R146, R147, R152, R172) -/

theorem allEnabled_legal : LegalSet allEnabled := rfl

/-- Legality, bit by bit. -/
theorem legalSet_iff (e : Half) : LegalSet e ↔ ∀ k ∈ [2, 3, 10, 11, 12, 13, 14, 15], e.getLsbD k = decide (k = 2 ∨ k = 3) := by
  constructor
  · intro legal k mem
    have bit := congrArg (fun x : Half => x.getLsbD k) legal
    simp only [BitVec.getLsbD_and] at bit
    fin_cases mem <;> simpa using bit
  · intro bits
    refine BitVec.eq_of_getLsbD_eq fun k hk => ?_
    rw [BitVec.getLsbD_and]
    have bit := bits k
    interval_cases k <;> simp_all

/-- A set that differs from a legal one in maskable classes only is legal. -/
theorem LegalSet.of_same_bits {e e' : Half} (legal : LegalSet e)
    (same : ∀ k ∈ [2, 3, 10, 11, 12, 13, 14, 15], e'.getLsbD k = e.getLsbD k) : LegalSet e' :=
  (legalSet_iff e').mpr fun k mem => (same k mem).trans ((legalSet_iff e).mp legal k mem)

/-- Writing a class writes its bit alone. -/
theorem setClass_getLsbD (e : Half) (c : NoticeClass) (b : Bool) (k : Nat) :
    (setClass e c b).getLsbD k = if k = c.code then b else e.getLsbD k := by
  have inRange : c.code < 16 := by cases c <;> decide
  have bit : (classBit c).getLsbD k = decide (k = c.code) := by
    have power : classBit c = BitVec.twoPow 16 c.code := by cases c <;> rfl
    simp [power, BitVec.getLsbD_twoPow, inRange, eq_comm]
  cases b with
  | true =>
    simp only [setClass, if_true, BitVec.getLsbD_or, bit]
    split_ifs <;> simp_all
  | false =>
    by_cases wide : k < 16
    · simp only [setClass, Bool.false_eq_true, if_false, BitVec.getLsbD_and, BitVec.getLsbD_not, bit, wide]
      split_ifs <;> simp_all
    · have high (x : Half) : x.getLsbD k = false := BitVec.getLsbD_of_ge x k (Nat.not_lt.mp wide)
      rw [high, high, if_neg (by omega)]

theorem LegalSet.setClass {e : Half} (legal : LegalSet e) {c : NoticeClass} (maskable : c.maskable = true) (b : Bool) :
    LegalSet (setClass e c b) := by
  refine legal.of_same_bits fun k mem => ?_
  rw [setClass_getLsbD, if_neg]
  rintro rfl
  revert maskable mem
  cases c <;> decide

theorem LegalSet.disableThree {e : Half} (legal : LegalSet e) : LegalSet (disableThree e) :=
  ((legal.setClass (c := .pathState) rfl false).setClass (c := .spill) rfl false).setClass (c := .counterWrap) rfl false

theorem LegalSet.restoreThree {e : Half} (legal : LegalSet e) (v : SavedEnables) : LegalSet (restoreThree e v) :=
  ((legal.setClass (c := .pathState) rfl _).setClass (c := .spill) rfl _).setClass (c := .counterWrap) rfl _

/-- The ignored bits keep under each operation of MASK_NOTICES. -/
theorem LegalSet.masked {e : Half} (legal : LegalSet e) (mask : Half) {b : Byte} {f : Half → Half → Half}
    (operation : maskOperation b = some f) : LegalSet (f e mask) := by
  refine legal.of_same_bits fun k mem => ?_
  have ignored : (maskableBits).getLsbD k = false := by fin_cases mem <;> rfl
  have inRange : k < 16 := by fin_cases mem <;> decide
  unfold maskOperation at operation
  split at operation <;> cases operation <;>
    simp only [maskAnd, maskOr, maskXor, BitVec.getLsbD_and, BitVec.getLsbD_or, BitVec.getLsbD_xor, BitVec.getLsbD_not, ignored,
      inRange, decide_true, Bool.not_false, Bool.and_true, Bool.or_true, Bool.and_false, Bool.or_false, Bool.xor_false]

end Sys2Proof.Machine
end

section
/-! The relations `Lawful` and `Still`, and every operation on a unit. -/

namespace Sys2Proof.Machine

open Sys2Proof

/-! ### The two relations -/

/-- What every operation keeps, whatever the states of the paths. -/
structure Lawful (s t : State) : Prop where
  pending : t.pending = s.pending
  pages : PagesPartitioned s → PagesPartitioned t
  echo : EchoTablesOrdered s → EchoTablesOrdered t
  scan : ScanListOrdered s → ScanListOrdered t
  link : ∀ c k, LinkWithin c k s.link → LinkWithin c k t.link

/-- An operation that moves no page, no path between states and no unit into or out of OFF. -/
structure Still (s t : State) : Prop where
  pending : t.pending = s.pending
  fitment : t.store.fitment = s.store.fitment
  free : t.store.free = s.store.free
  wait : t.store.wait = s.store.wait
  pathState : ∀ p, (t.path p).state = (s.path p).state
  pages : ∀ p, (t.path p).pages = (s.path p).pages
  echo : EchoTablesOrdered s → EchoTablesOrdered t
  scan : ScanListOrdered s → ScanListOrdered t
  link : ∀ c k, LinkWithin c k s.link → LinkWithin c k t.link
  unitEnable : t.device.unitEnable = s.device.unitEnable
  inputs : ∀ i, (t.input i).state = .off ↔ (s.input i).state = .off
  outputs : ∀ o, (t.output o).state = .off ↔ (s.output o).state = .off

theorem Lawful.refl (s : State) : Lawful s s := ⟨rfl, id, id, id, fun _ _ => id⟩

theorem Lawful.trans {s t u : State} (h : Lawful s t) (k : Lawful t u) : Lawful s u :=
  ⟨k.pending.trans h.pending, k.pages ∘ h.pages, k.echo ∘ h.echo, k.scan ∘ h.scan, fun c n => k.link c n ∘ h.link c n⟩

theorem Still.refl (s : State) : Still s s :=
  ⟨rfl, rfl, rfl, rfl, fun _ => rfl, fun _ => rfl, id, id, fun _ _ => id, rfl, fun _ => .rfl, fun _ => .rfl⟩

theorem Still.trans {s t u : State} (h : Still s t) (k : Still t u) : Still s u where
  pending := k.pending.trans h.pending
  fitment := k.fitment.trans h.fitment
  free := k.free.trans h.free
  wait := k.wait.trans h.wait
  pathState p := (k.pathState p).trans (h.pathState p)
  pages p := (k.pages p).trans (h.pages p)
  echo := k.echo ∘ h.echo
  scan := k.scan ∘ h.scan
  link c n := k.link c n ∘ h.link c n
  unitEnable := k.unitEnable.trans h.unitEnable
  inputs i := (k.inputs i).trans (h.inputs i)
  outputs o := (k.outputs o).trans (h.outputs o)

theorem Lawful.ite {c : Prop} [Decidable c] {s t u : State} (h : Lawful s t) (k : Lawful s u) : Lawful s (if c then t else u) := by
  split
  · exact h
  · exact k

theorem Still.ite {c : Prop} [Decidable c] {s t u : State} (h : Still s t) (k : Still s u) : Still s (if c then t else u) := by
  split
  · exact h
  · exact k

theorem Lawful.foldl {α : Type} {f : State → α → State} (h : ∀ s a, Lawful s (f s a)) (l : List α) :
    ∀ s : State, Lawful s (l.foldl f s) := by
  induction l with
  | nil => exact Lawful.refl
  | cons a l ih => exact fun s => (h s a).trans (ih _)

theorem Still.foldl {α : Type} {f : State → α → State} (h : ∀ s a, Still s (f s a)) (l : List α) :
    ∀ s : State, Still s (l.foldl f s) := by
  induction l with
  | nil => exact Still.refl
  | cons a l ih => exact fun s => (h s a).trans (ih _)

/-! ### The partition, by counting (R93) -/

theorem pagesPartitioned_iff_count (s : State) :
    PagesPartitioned s ↔ ∀ n, s.store.free.count n + s.heldPages.count n = (List.range s.store.fitment).count n := by
  simp only [PagesPartitioned, List.perm_iff_count, List.count_append]

/-- A path's list stands once among the held pages. -/
theorem count_heldPages_modPath (s : State) (p : PathId) (f : Path → Path) (n : Nat) :
    (s.modPath p f).heldPages.count n + (s.path p).pages.count n = s.heldPages.count n + (f (s.path p)).pages.count n := by
  cases p <;> simp [State.heldPages, Paths.set, Paths.get] <;> omega

theorem heldPages_of_same_pages {s t : State} (same : ∀ p, (t.path p).pages = (s.path p).pages) : t.heldPages = s.heldPages :=
  congrArg₂ _ (congrArg₂ _ (congrArg₂ _ (same .p0) (same .p1)) (same .p2)) (same .p3)

theorem Still.lawful {s t : State} (h : Still s t) : Lawful s t := by
  refine ⟨h.pending, fun partitioned => ?_, h.echo, h.scan, h.link⟩
  rwa [PagesPartitioned, h.free, h.fitment, heldPages_of_same_pages h.pages]

/-! ### Writing one unit -/

theorem modPath_path_self (s : State) (p : PathId) (f : Path → Path) : (s.modPath p f).path p = f (s.path p) := by simp

theorem modPath_path_ne (s : State) {p q : PathId} (f : Path → Path) (other : q ≠ p) : (s.modPath p f).path q = s.path q := by
  simp [Paths.get_set_ne _ _ other]

theorem echoTablesOrdered_modPath {s : State} {p : PathId} {f : Path → Path} (before : EchoTablesOrdered s)
    (table : EchoTableOrdered (s.path p).tracker.table → EchoTableOrdered (f (s.path p)).tracker.table) :
    EchoTablesOrdered (s.modPath p f) := by
  intro q
  by_cases same : q = p
  · subst same
    rw [modPath_path_self]
    exact table (before q)
  · rw [modPath_path_ne s f same]
    exact before q

theorem Lawful.modPath (s : State) (p : PathId) (f : Path → Path) (pages : (f (s.path p)).pages = (s.path p).pages)
    (table : EchoTableOrdered (s.path p).tracker.table → EchoTableOrdered (f (s.path p)).tracker.table) :
    Lawful s (s.modPath p f) := by
  refine ⟨rfl, fun partitioned => ?_, fun before => echoTablesOrdered_modPath before table, id, fun _ _ => id⟩
  rw [pagesPartitioned_iff_count] at partitioned ⊢
  intro n
  have counted := count_heldPages_modPath s p f n
  rw [pages] at counted
  rw [State.modPath_store, ← partitioned n]
  omega

theorem Still.modPath (s : State) (p : PathId) (f : Path → Path) (state : (f (s.path p)).state = (s.path p).state)
    (pages : (f (s.path p)).pages = (s.path p).pages)
    (table : EchoTableOrdered (s.path p).tracker.table → EchoTableOrdered (f (s.path p)).tracker.table) :
    Still s (s.modPath p f) := by
  have field {α : Type} (view : Path → α) (same : view (f (s.path p)) = view (s.path p)) (q : PathId) :
      view ((s.modPath p f).path q) = view (s.path q) := by
    by_cases eq : q = p
    · rw [eq, modPath_path_self, same]
    · rw [modPath_path_ne s f eq]
  exact ⟨rfl, rfl, rfl, rfl, field Path.state state, field Path.pages pages, fun before => echoTablesOrdered_modPath before table,
    id, fun _ _ => id, rfl, fun _ => .rfl, fun _ => .rfl⟩

theorem Lawful.modInput (s : State) (i : InputId) (f : Input → Input) : Lawful s (s.modInput i f) := ⟨rfl, id, id, id, fun _ _ => id⟩

theorem Still.modInput (s : State) (i : InputId) (f : Input → Input) (off : (f (s.input i)).state = .off ↔ (s.input i).state = .off) :
    Still s (s.modInput i f) := by
  refine ⟨rfl, rfl, rfl, rfl, fun _ => rfl, fun _ => rfl, id, id, fun _ _ => id, rfl, fun j => ?_, fun _ => .rfl⟩
  by_cases same : j = i
  · subst same
    simpa using off
  · simp [Inputs.get_set_ne _ _ same]

theorem Lawful.modOutput (s : State) (o : OutputId) (f : Output → Output) : Lawful s (s.modOutput o f) := ⟨rfl, id, id, id, fun _ _ => id⟩

theorem Still.modOutput (s : State) (o : OutputId) (f : Output → Output)
    (off : (f (s.output o)).state = .off ↔ (s.output o).state = .off) : Still s (s.modOutput o f) := by
  refine ⟨rfl, rfl, rfl, rfl, fun _ => rfl, fun _ => rfl, id, id, fun _ _ => id, rfl, fun _ => .rfl, fun n => ?_⟩
  by_cases same : n = o
  · subst same
    simpa using off
  · simp [Outputs.get_set_ne _ _ same]

theorem Lawful.modDevice (s : State) (f : Device → Device) (list : ScanLawful s.device.scanList → ScanLawful (f s.device).scanList) :
    Lawful s (s.modDevice f) := ⟨rfl, id, id, list, fun _ _ => id⟩

theorem Still.modDevice (s : State) (f : Device → Device) (list : ScanLawful s.device.scanList → ScanLawful (f s.device).scanList)
    (enable : (f s.device).unitEnable = s.device.unitEnable) : Still s (s.modDevice f) :=
  ⟨rfl, rfl, rfl, rfl, fun _ => rfl, fun _ => rfl, id, list, fun _ _ => id, enable, fun _ => .rfl, fun _ => .rfl⟩

theorem Still.modStore (s : State) (f : Store → Store) (fitment : (f s.store).fitment = s.store.fitment)
    (free : (f s.store).free = s.store.free) (wait : (f s.store).wait = s.store.wait) : Still s (s.modStore f) :=
  ⟨rfl, fitment, free, wait, fun _ => rfl, fun _ => rfl, id, id, fun _ _ => id, rfl, fun _ => .rfl, fun _ => .rfl⟩

theorem Still.modLink (s : State) (f : Link → Link) (link : ∀ c k, LinkWithin c k s.link → LinkWithin c k (f s.link)) :
    Still s (s.modLink f) :=
  ⟨rfl, rfl, rfl, rfl, fun _ => rfl, fun _ => rfl, id, id, link, rfl, fun _ => .rfl, fun _ => .rfl⟩

theorem Still.raise (s : State) (u : UnitId) (d : NoticeDetail) : Still s (s.raise u d) :=
  Still.modLink s (fun l => l.raise s.device.uptime u d) fun _ _ h => h.raise _ _ _

theorem Still.setEnables (s : State) (u : UnitId) (e : Half) (legal : LegalSet (s.link.enables.get u) → LegalSet e) :
    Still s (s.setEnables u e) :=
  Still.modLink s _ fun _ _ h => h.setEnables u e (legal (h.enables u))

/-! ### Counters, tunes, scans, windows, rates -/

theorem Still.setCounter (s : State) (c : CounterId) (x : Counter) : Still s (s.setCounter c x) := by
  cases c with
  | path p c => exact Still.modPath s p (fun y => { y with counters := y.counters.set c x }) rfl rfl id
  | clip i => exact Still.modInput s i (fun y => { y with clip := x }) .rfl
  | impulse i => exact Still.modInput s i (fun y => { y with impulses := x }) .rfl
  | fill o => exact Still.modOutput s o (fun y => { y with fill := x }) .rfl
  | dropped o => exact Still.modOutput s o (fun y => { y with dropped := x }) .rfl

theorem Still.count (s : State) (c : CounterId) : Still s (s.count c) :=
  Still.ite ((Still.setCounter s c _).trans (Still.raise _ _ _)) (Still.setCounter s c _)

theorem Still.countPath (s : State) (p : PathId) (c : PathCounter) : Still s (s.countPath p c) := Still.ite (Still.refl s) (Still.count s _)

theorem Still.endTune (s : State) (p : PathId) (result : TuneResult) : Still s (s.endTune p result) := by
  unfold State.endTune
  split
  · exact Still.refl s
  · exact Still.ite ((Still.modPath s p _ rfl rfl id).trans (Still.raise _ _ _)) (Still.refl s)

theorem Still.stopScan (s : State) (p : PathId) : Still s (s.stopScan p) := by
  unfold State.stopScan
  split
  · exact Still.refl s
  · exact (Still.raise s _ _).trans (Still.modPath _ p _ rfl rfl id)

theorem Still.startSlot (s : State) (o : OutputId) : Still s (s.startSlot o) := by
  unfold State.startSlot
  split
  · exact Still.modOutput s o _ .rfl
  · exact (Still.modOutput s o _ .rfl).trans (Still.count _ _)

theorem Still.beginFirstSlot (s : State) (o : OutputId) : Still s (s.beginFirstSlot o) := Still.ite (Still.startSlot s o) (Still.refl s)

theorem Still.takeRate (s : State) (p : PathId) (rate : Word) (o : OutputId) : Still s (s.takeRate p rate o) := by
  unfold State.takeRate
  refine Still.ite ?_ (Still.refl s)
  split
  · exact Still.refl s
  · rename_i silent
    exact (Still.modOutput s o _ (by simp_all)).trans (Still.beginFirstSlot _ o)
  · exact Still.modOutput s o _ .rfl

theorem Still.latchRate (s : State) (p : PathId) : Still s (s.latchRate p) := by
  unfold State.latchRate
  split
  · exact Still.refl s
  · exact (Still.modPath s p _ rfl rfl id).trans (Still.foldl (fun s o => Still.takeRate s p _ o) _ _)

theorem Still.markBlanked (s : State) (p : PathId) : Still s (s.markBlanked p) :=
  Still.ite ((Still.modPath s p _ rfl rfl id).trans (Still.countPath _ _ _)) (Still.refl s)

theorem Still.blankIfImpulse (s : State) (p : PathId) : Still s (s.blankIfImpulse p) := Still.ite (Still.markBlanked s p) (Still.refl s)

theorem Still.holdRecord (s : State) (p : PathId) (d : SigRecord) : Still s (s.holdRecord p d) := Still.modPath s p _ rfl rfl id

theorem Still.dropStaging (s : State) (p : PathId) : Still s (s.dropStaging p) :=
  (Still.modPath s p _ rfl rfl id).trans (Still.modStore _ _ rfl rfl rfl)

/-! ### Entering a state, moving pages -/

theorem Path.enter_pages (x : Path) (new : PathState) : (x.enter new).pages = x.pages := rfl

@[simp] theorem Path.enter_state (x : Path) (new : PathState) : (x.enter new).state = new := rfl

/-- Entering a state keeps the echo table or clears it (R49). -/
theorem Path.enter_table (x : Path) (new : PathState) (before : EchoTableOrdered x.tracker.table) :
    EchoTableOrdered (x.enter new).tracker.table := by
  by_cases clears : new = .search ∨ new = .off
  · have cleared : (x.enter new).tracker = Tracker.cleared := if_pos clears
    rw [cleared]
    exact EchoTableOrdered.nil
  · have kept : (x.enter new).tracker = x.tracker := if_neg clears
    rw [kept]
    exact before

/-- Emptying an output's queue leaves its state (R127). -/
@[simp] theorem Output.flushFor_state (p : PathId) (x : Output) : (x.flushFor p).state = x.state := by
  unfold Output.flushFor
  split <;> rfl

/-- The outputs act on their queues after the path has entered its state. -/
theorem enterPath_still_modPath (s : State) (p : PathId) (new : PathState) :
    Still (s.modPath p (fun x => x.enter new)) (s.enterPath p new) := by
  unfold State.enterPath
  simp only
  split
  · exact ⟨rfl, rfl, rfl, rfl, fun _ => rfl, fun _ => rfl, id, id, fun _ _ => id, rfl, fun _ => .rfl, fun o => by simp⟩
  · exact Still.refl _

theorem Lawful.enterPath (s : State) (p : PathId) (new : PathState) : Lawful s (s.enterPath p new) :=
  (Lawful.modPath s p _ rfl ((s.path p).enter_table new)).trans (enterPath_still_modPath s p new).lawful

theorem Lawful.movePath (s : State) (p : PathId) (new : PathState) (reason : Reason) : Lawful s (s.movePath p new reason) :=
  (Lawful.enterPath s p new).trans (Still.raise _ _ _).lawful

/-- A grant takes its pages from the free list (R98). -/
theorem Lawful.grant (s : State) (p : PathId) (n : Nat) : Lawful s (s.grant p n) := by
  refine ⟨rfl, fun partitioned => ?_, fun before => ?_, id, fun _ _ => id⟩
  case refine_2 => exact echoTablesOrdered_modPath (p := p) (f := fun x => { x with pages := x.pages ++ s.store.free.take n }) before id
  rw [pagesPartitioned_iff_count] at partitioned ⊢
  intro k
  have counted := count_heldPages_modPath s p (fun x => { x with pages := x.pages ++ s.store.free.take n }) k
  have split : s.store.free.count k = (s.store.free.take n).count k + (s.store.free.drop n).count k := by
    rw [← List.count_append, List.take_append_drop]
  have whole := partitioned k
  rw [List.count_append] at counted
  have held : (s.grant p n).heldPages = (s.modPath p (fun x => { x with pages := x.pages ++ s.store.free.take n })).heldPages := rfl
  have free : (s.grant p n).store.free = s.store.free.drop n := rfl
  have fitment : (s.grant p n).store.fitment = s.store.fitment := rfl
  rw [held, free, fitment]
  omega

/-- A release gives its pages to the free list (R99). -/
theorem Lawful.releasePages (s : State) (p : PathId) (keep : Nat) : Lawful s (s.releasePages p keep) := by
  refine ⟨rfl, fun partitioned => ?_, fun before => ?_, id, fun _ _ => id⟩
  case refine_2 => exact echoTablesOrdered_modPath (p := p) (f := fun x => { x with pages := x.pages.take keep }) before id
  rw [pagesPartitioned_iff_count] at partitioned ⊢
  intro k
  have counted := count_heldPages_modPath s p (fun x => { x with pages := x.pages.take keep }) k
  have split : (s.path p).pages.count k = ((s.path p).pages.take keep).count k + ((s.path p).pages.drop keep).count k := by
    rw [← List.count_append, List.take_append_drop]
  have whole := partitioned k
  have held : (s.releasePages p keep).heldPages = (s.modPath p (fun x => { x with pages := x.pages.take keep })).heldPages := rfl
  have free : (s.releasePages p keep).store.free = s.store.free ++ (s.path p).pages.drop keep := rfl
  have fitment : (s.releasePages p keep).store.fitment = s.store.fitment := rfl
  dsimp only at counted
  rw [held, free, fitment, List.count_append]
  omega

/-- The wait queue holds no pages. -/
theorem Lawful.setWait (s : State) (wait : List Waiting) : Lawful s (s.modStore (fun t => { t with wait })) :=
  ⟨rfl, id, id, id, fun _ _ => id⟩

theorem Lawful.joinQueue (s : State) (p : PathId) (n : Nat) : Lawful s (s.joinQueue p n) := Lawful.setWait s _

theorem Lawful.examineUpTo (n : Nat) : ∀ s : State, Lawful s (State.examineUpTo n s) := by
  induction n with
  | zero => exact Lawful.refl
  | succ n ih =>
    intro s
    unfold State.examineUpTo
    split
    · exact Lawful.refl s
    · exact Lawful.ite (((Lawful.setWait s _).trans ((Lawful.grant _ _ _).trans (Lawful.movePath _ _ _ _))).trans (ih _)) (Lawful.refl s)

theorem Lawful.examine (s : State) : Lawful s s.examine := Lawful.examineUpTo _ s

theorem Lawful.releaseHolding (s : State) (p : PathId) : Lawful s (s.releaseHolding p) :=
  Lawful.ite (Lawful.refl s) ((Lawful.releasePages s p 0).trans ((Still.dropStaging _ p).lawful.trans (Lawful.examine _)))

theorem Lawful.withdraw (s : State) (p : PathId) : Lawful s (s.withdraw p) :=
  Lawful.ite ((Lawful.setWait s _).trans (Lawful.examine _)) (Lawful.refl s)

theorem Lawful.giveUpStore (s : State) (p : PathId) : Lawful s (s.giveUpStore p) :=
  (Lawful.releaseHolding s p).trans (Lawful.withdraw _ p)

/-- A path gives up its tune, its scan and what it has at the store. -/
theorem Lawful.abandon (s : State) (p : PathId) : Lawful s (((s.endTune p .stopped).stopScan p).giveUpStore p) :=
  (Still.endTune s p _).lawful.trans ((Still.stopScan _ p).lawful.trans (Lawful.giveUpStore _ p))

/-! ### Faults -/

theorem Still.firstFaultWrites (s : State) (p : PathId) (cause : FaultCause) :
    Still s ((s.modPath p (fun x => { x with fault := { x.fault with
      hold := true, primary := some cause, saved := some (saveEnables (s.link.enables.get (.path p))) } })).setEnables (.path p)
        (disableThree (s.link.enables.get (.path p)))) :=
  (Still.modPath s p _ rfl rfl id).trans (Still.setEnables _ _ _ LegalSet.disableThree)

theorem Lawful.firstFault (s : State) (p : PathId) (cause : FaultCause) (value : Word) : Lawful s (s.firstFault p cause value) :=
  (Still.firstFaultWrites s p cause).lawful.trans ((Lawful.giveUpStore _ p).trans ((Lawful.enterPath _ p _).trans
    ((Still.raise _ _ _).trans (Still.endTune _ p _)).lawful))

theorem Lawful.secondFault (s : State) (p : PathId) (cause : FaultCause) : Lawful s (s.secondFault p cause) :=
  (Still.modPath s p (fun x => { x with fault := { x.fault with secondary := some cause } }) rfl rfl id).lawful.trans
    ((Lawful.giveUpStore _ p).trans ((Lawful.enterPath _ p _).trans
      ((Still.raise _ _ _).trans ((Still.raise _ _ _).trans (Still.endTune _ p _))).lawful))

theorem Lawful.takeFault (s : State) (p : PathId) (cause : FaultCause) (value : Word) : Lawful s (s.takeFault p cause value) :=
  Lawful.ite (Lawful.secondFault s p cause) (Lawful.firstFault s p cause value)

/-! ### Packets -/

theorem Still.queuePacket (s : State) (o : OutputId) (packet : Packet) : Still s (s.queuePacket o packet) :=
  Still.ite (Still.modOutput s o _ .rfl) (Still.count s _)

theorem Still.arriveAt (s : State) (p : PathId) (packet : Packet) (status : PacketStatus) (o : OutputId) :
    Still s (s.arriveAt p packet status o) := by
  unfold State.arriveAt
  refine Still.ite ?_ (Still.refl s)
  split
  · exact Still.queuePacket s o _
  · exact Still.refl s

theorem Still.packetDelivered (p : PathId) (packet : Packet) (status : PacketStatus) (s : State) :
    Still s (packetDelivered p packet status s) :=
  Still.ite ((Still.countPath s p _).trans (Still.foldl (fun s o => Still.arriveAt s p packet status o) _ _)) (Still.refl s)

theorem Still.slotStarts (o : OutputId) (s : State) : Still s (slotStarts o s) := Still.ite (Still.startSlot s o) (Still.refl s)

theorem Still.packetFinishes (o : OutputId) (s : State) : Still s (packetFinishes o s) :=
  Still.ite (Still.refl s) (Still.modOutput s o _ .rfl)

/-! ### Inputs and the reference clock -/

theorem Still.calibrated (i : InputId) (s : State) : Still s (calibrated i s) := by
  unfold Machine.calibrated
  split
  · rename_i calibrating
    exact Still.modInput s i _ (by simp [calibrating.1])
  · exact Still.refl s

theorem Path.windowEvent_fields (x : Path) :
    x.windowEvent.state = x.state ∧ x.windowEvent.pages = x.pages ∧ x.windowEvent.tracker = x.tracker := by
  unfold Path.windowEvent
  split <;> exact ⟨rfl, rfl, rfl⟩

theorem Still.windowEvent (s : State) (p : PathId) : Still s (s.modPath p Path.windowEvent) := by
  obtain ⟨state, pages, tracker⟩ := (s.path p).windowEvent_fields
  exact Still.modPath s p _ state pages (by rw [tracker]; exact id)

theorem Still.setGain (s : State) (i : InputId) (g : Nat) : Still s (s.setGain i g) :=
  Still.ite (Still.refl s) ((Still.modInput s i _ .rfl).trans (Still.foldl Still.windowEvent _ _))

theorem Still.setLevel (s : State) (i : InputId) (weak overload : Bool) : Still s (s.setLevel i weak overload) :=
  Still.ite (Still.modInput s i _ .rfl) ((Still.modInput s i _ .rfl).trans (Still.raise _ _ _))

theorem Still.gainPeriodClosed (i : InputId) (occupancy : Byte) (clipCount : Nat) (s : State) :
    Still s (gainPeriodClosed i occupancy clipCount s) :=
  Still.ite (Still.trans (Still.modInput s i _ .rfl) (Still.trans (Still.setGain _ i _) (Still.trans (Still.setLevel _ i _ _)
    (Still.ite (Still.count _ _) (Still.refl _))))) (Still.refl s)

theorem Still.impulseBegins (i : InputId) (magnitude : Byte) (s : State) : Still s (impulseBegins i magnitude s) :=
  Still.ite ((Still.modInput s i _ .rfl).trans ((Still.count _ _).trans (Still.foldl Still.markBlanked _ _))) (Still.refl s)

theorem Still.impulseEnds (i : InputId) (s : State) : Still s (impulseEnds i s) := Still.modInput s i _ .rfl

theorem Still.moveMast (s : State) (i : InputId) (new : MastState) (retries : Nat) (retryTimer tripFreeTimer : Timer) :
    Still s (s.moveMast i new retries retryTimer tripFreeTimer) := (Still.modInput s i _ .rfl).trans (Still.raise _ _ _)

theorem Still.overcurrentTaken (i : InputId) (s : State) : Still s (overcurrentTaken i s) :=
  Still.ite (Still.ite (Still.moveMast s i _ _ _ _) (Still.moveMast s i _ _ _ _)) (Still.refl s)

theorem Still.retryTaken (i : InputId) (s : State) : Still s (retryTaken i s) := Still.ite (Still.moveMast s i _ _ _ _) (Still.refl s)

theorem Still.tripFreeTaken (i : InputId) (s : State) : Still s (tripFreeTaken i s) :=
  Still.ite (Still.modInput s i _ .rfl) (Still.refl s)

theorem Still.setMast (s : State) (i : InputId) (turnOn : Bool) : Still s (s.setMast i turnOn) := by
  have stored := Still.modInput s i (fun x => { x with mastItem := turnOn }) .rfl
  unfold State.setMast
  simp only
  split
  case h_2 | h_3 | h_5 => exact stored
  all_goals exact stored.trans (Still.moveMast _ i _ _ _ _)

theorem Still.referenceStep (s : State) : Still s s.referenceStep := Still.foldl Still.windowEvent _ _

theorem Still.moveReference (s : State) (new : RefState) (step : Bool) : Still s (s.moveReference new step) := by
  have moved := (Still.modDevice s (fun d => { d with
    reference := new, switchTimer := if new = .switching then some Config.switchMs else none }) id rfl).trans
      (Still.raise _ .device (.reference s.device.reference new step))
  exact Still.ite (moved.trans (Still.referenceStep _)) moved

theorem Still.externalReturned (s : State) : Still s (externalReturned s) := by
  have present := Still.modDevice s (fun d => { d with extPresent := true }) id rfl
  unfold Machine.externalReturned
  simp only
  split
  case h_4 => exact present.trans (Still.moveReference _ _ _)
  all_goals exact present

theorem Still.externalGone (s : State) : Still s (externalGone s) := by
  have absent := Still.modDevice s (fun d => { d with extPresent := false }) id rfl
  unfold Machine.externalGone
  simp only
  split
  case h_2 | h_3 => exact absent.trans (Still.moveReference _ _ _)
  all_goals exact absent

theorem Still.switchExpired (s : State) : Still s (switchExpired s) := Still.ite (Still.moveReference s _ _) (Still.refl s)

theorem Still.wantInternal (s : State) : Still s s.wantInternal := by
  unfold State.wantInternal
  split
  case h_3 | h_4 => exact Still.moveReference s _ _
  all_goals exact Still.refl s

theorem Still.wantExternal (s : State) : Still s s.wantExternal := by
  unfold State.wantExternal
  split
  case h_1 => exact Still.ite (Still.moveReference s _ _) (Still.moveReference s _ _)
  all_goals exact Still.refl s

/-! ### Bursts, refreshes, the arbiter -/

theorem Still.decideGrant (s : State) : Still s s.decideGrant := by
  have refresh : Still s s.grantRefresh := Still.modStore s _ rfl rfl rfl
  unfold State.decideGrant
  refine Still.ite refresh ?_
  split
  · rename_i p _
    unfold State.grantBurst
    split
    · exact Still.refl s
    · exact (Still.modPath s p _ rfl rfl id).trans (Still.modStore _ _ rfl rfl rfl)
  · exact Still.ite refresh (Still.modStore s _ rfl rfl rfl)

theorem Still.decideIfIdle (s : State) : Still s s.decideIfIdle := Still.ite (Still.decideGrant s) (Still.refl s)

theorem Still.discardBurst (s : State) (p : PathId) : Still s (s.discardBurst p) :=
  Still.ite (Still.refl s) ((Still.modPath s p _ rfl rfl id).trans (Still.countPath _ _ _))

theorem Still.burstTaken (p : PathId) (dir : BurstDir) (s : State) : Still s (burstTaken p dir s) :=
  Still.ite (Still.trans (Still.modPath s p _ rfl rfl id) (Still.trans
    (Still.ite (Still.modPath _ p _ rfl rfl id) (Still.discardBurst _ p)) (Still.decideIfIdle _))) (Still.refl s)

theorem Still.refreshFallsDue (s : State) : Still s (refreshFallsDue s) :=
  (Still.modStore s _ rfl rfl rfl).trans (Still.decideIfIdle _)

theorem Still.grantEnds (s : State) : Still s (grantEnds s) := Still.ite (Still.refl s) (Still.decideGrant s)

/-! ### The link block's events -/

theorem Still.hunt (s : State) (p : Port) : Still s (s.hunt p) := Still.modLink s _ fun _ _ h => ⟨h.1, h.2, h.3, h.4, h.5⟩

theorem Still.setReceiver (s : State) (p : Port) (x : Receiver) : Still s (s.setReceiver p x) :=
  Still.modLink s _ fun _ _ h => ⟨h.1, h.2, h.3, h.4, h.5⟩

theorem Still.occupyCp (s : State) (f : TxFrame) : Still s (s.occupyCp f) := Still.modLink s _ fun _ _ h => ⟨h.1, h.2, h.3, h.4, h.5⟩

theorem Still.frameDiscarded (p : Port) (cause : DiscardCause) (s : State) : Still s (frameDiscarded p cause s) :=
  Still.ite (Still.hunt s p) (Still.refl s)

theorem Still.gapExpired (p : Port) (s : State) : Still s (gapExpired p s) := Still.ite (Still.hunt s p) (Still.refl s)

theorem LinkWithin.frameEnd {c k : Nat} {l : Link} (h : LinkWithin c k l) (p : Port) : LinkWithin c k (l.frameEnd p) := by
  unfold Link.frameEnd
  split
  · exact h
  · dsimp only
    refine LinkWithin.pump ?_ p
    exact ⟨h.1, h.2, h.3, h.4, h.5⟩

theorem Still.frameEnds (p : Port) (s : State) : Still s (frameEnds p s) := Still.modLink s _ fun _ _ h => h.frameEnd p

theorem LinkWithin.changeSpeed {c k : Nat} {l : Link} (h : LinkWithin c k l) : LinkWithin c k l.changeSpeed := by
  unfold Link.changeSpeed
  split
  · exact h
  · split
    · exact LinkWithin.pumpCp ⟨h.1, h.2, h.3, h.4, h.5⟩
    · exact h

theorem Still.speedChanges (s : State) : Still s (speedChanges s) := Still.modLink s _ fun _ _ h => h.changeSpeed

theorem Still.storeSpeed (s : State) (speed : LinkSpeed) (own : Bool) : Still s (s.modLink (fun l => l.storeSpeed speed own)) := by
  refine Still.modLink s _ fun _ _ h => ?_
  unfold Link.storeSpeed
  split
  · exact h
  · exact ⟨h.1, h.2, h.3, h.4, h.5⟩

theorem Still.recordTag (s : State) (t : Taken) (st : Status) : Still s (s.recordTag t st) :=
  Still.ite ⟨rfl, rfl, rfl, rfl, fun _ => rfl, fun _ => rfl, id, id, fun _ _ => id, rfl, fun _ => .rfl, fun _ => .rfl⟩ (Still.refl s)

theorem Still.useChoice (s : State) : Still s s.useChoice :=
  ⟨rfl, rfl, rfl, rfl, fun _ => rfl, fun _ => rfl, id, id, fun _ _ => id, rfl, fun _ => .rfl, fun _ => .rfl⟩

theorem Still.tick (s : State) : Still s s.tick := Still.ite (Still.refl s) (Still.modDevice s _ id rfl)

/-! ### Scans -/

theorem Still.searchChannel (s : State) (p : PathId) (r : ScanRecord) : Still s (s.modPath p (fun x => x.searchChannel r)) :=
  Still.modPath s p _ rfl rfl fun _ => EchoTableOrdered.nil

theorem Lawful.completeScan (s : State) (p : PathId) (r : ScanRecord) : Lawful s (s.completeScan p r) :=
  ((Still.raise s _ _).trans (Still.modPath _ p (fun x => { x with scan := none }) rfl rfl id)).lawful.trans (Lawful.movePath _ p _ _)

theorem Lawful.endChannel (s : State) (p : PathId) (r : ScanRecord) : Lawful s (s.endChannel p r) :=
  Lawful.ite (Lawful.completeScan s p _) (Still.searchChannel s p _).lawful

theorem Still.removeChannel (s : State) (key : Nat) : Still s (s.modDevice (fun d => d.removeChannel key)) := by
  refine Still.modDevice s _ (s.device.removeChannel_scanLawful key) ?_
  simp only [Device.removeChannel]
  split <;> rfl

theorem Still.find (s : State) (e : ScanEntry) : Still s (s.modDevice (fun d => d.find e)) := by
  refine Still.modDevice s _ (s.device.find_scanLawful e) ?_
  simp only [Device.find]
  split <;> rfl

theorem Still.clearScan (s : State) : Still s (s.modDevice Device.clearScan) := by
  refine Still.modDevice s _ s.device.clearScan_scanLawful ?_
  simp only [Device.clearScan]
  split <;> rfl

theorem Lawful.channelEmpty (s : State) (p : PathId) (r : ScanRecord) : Lawful s (s.channelEmpty p r) :=
  (Still.removeChannel s _).lawful.trans (Lawful.endChannel _ p r)

theorem Lawful.channelFind (s : State) (p : PathId) (r : ScanRecord) (d : SigRecord) : Lawful s (s.channelFind p r d) :=
  (Still.find s _).lawful.trans (Lawful.endChannel _ p _)

theorem Lawful.startScan (s : State) (p : PathId) (input : InputId) (band : Band) (first last : Nat) (sender : TagPort) :
    Lawful s (s.startScan p input band first last sender) :=
  (Still.modPath s p _ rfl rfl id).lawful.trans ((Lawful.movePath _ p _ _).trans (Still.searchChannel _ p _).lawful)

end Sys2Proof.Machine
end

section
/-! Every operation of a path, an input, an output, a request or a reset keeps the queue of commands, the partition of the pages, the order of
the tables and the bounds of the link block, whatever the states of the units. -/

namespace Sys2Proof.Machine

open Sys2Proof

/-! ### Unit power and resets of units -/

theorem Lawful.loseInput (s : State) (reason : Reason) (p : PathId) : Lawful s (s.loseInput reason p) :=
  (Lawful.abandon s p).trans (Lawful.movePath _ p _ _)

theorem Lawful.releaseMembers (s : State) (i : InputId) (reason : Reason) : Lawful s (s.releaseMembers i reason) :=
  Lawful.foldl (fun s p => Lawful.loseInput s reason p) _ s

theorem Still.mastOff (s : State) (i : InputId) : Still s (s.mastOff i) := by
  have stored := Still.modInput s i (fun x => { x with mastItem := false }) .rfl
  exact Still.ite stored (stored.trans (Still.moveMast _ i _ _ _ _))

/-- An input's members leave it, its supply goes off and its level flags are cleared (R3, R19). -/
theorem Lawful.emptyInput (s : State) (i : InputId) (reason : Reason) :
    Lawful s (((s.releaseMembers i reason).mastOff i).setLevel i false false) :=
  (Lawful.releaseMembers s i reason).trans ((Still.mastOff _ i).trans (Still.setLevel _ i _ _)).lawful

theorem Lawful.disableInput (s : State) (i : InputId) : Lawful s (s.disableInput i) :=
  Lawful.ite (Lawful.refl s) ((Lawful.emptyInput s i _).trans (Lawful.modInput _ i _))

theorem Lawful.enableInput (s : State) (i : InputId) : Lawful s (s.enableInput i) :=
  Lawful.ite (Lawful.modInput s i _) (Lawful.refl s)

theorem Still.enableAll (s : State) (u : UnitId) : Still s (s.setEnables u allEnabled) :=
  Still.setEnables s u allEnabled fun _ => allEnabled_legal

theorem Lawful.resetInput (s : State) (i : InputId) : Lawful s (s.resetInput i) :=
  (Lawful.releaseMembers s i _).trans ((((Still.mastOff _ i).trans (Still.enableAll _ _)).trans (Still.setLevel _ i _ _)).lawful.trans
    (Lawful.modInput _ i _))

theorem Lawful.disablePath (s : State) (p : PathId) : Lawful s (s.disablePath p) :=
  Lawful.ite (Lawful.refl s) ((Lawful.abandon s p).trans (Lawful.movePath _ p _ _))

theorem Lawful.enablePath (s : State) (p : PathId) : Lawful s (s.enablePath p) :=
  Lawful.ite (Lawful.movePath s p _ _) (Lawful.refl s)

theorem Still.wiped (s : State) (p : PathId) : Still s (s.modPath p Path.wiped) :=
  Still.modPath s p _ rfl rfl fun _ => EchoTableOrdered.nil

theorem Lawful.resetPath (s : State) (p : PathId) : Lawful s (s.resetPath p) :=
  (Lawful.abandon s p).trans (((Still.enableAll _ _).trans (Still.wiped _ p)).lawful.trans (Lawful.movePath _ p _ _))

theorem Lawful.disableOutput (s : State) (o : OutputId) : Lawful s (s.disableOutput o) :=
  Lawful.ite (Lawful.refl s) (Lawful.modOutput s o _)

theorem Lawful.beginOutput (s : State) (o : OutputId) (rate : Option Word) : Lawful s (s.beginOutput o rate) :=
  Lawful.ite ((Lawful.modOutput s o _).trans (Still.beginFirstSlot _ o).lawful) (Lawful.modOutput s o _)

theorem Lawful.enableOutput (s : State) (o : OutputId) : Lawful s (s.enableOutput o) :=
  Lawful.ite (Lawful.beginOutput s o _) (Lawful.refl s)

theorem Lawful.resetOutput (s : State) (o : OutputId) : Lawful s (s.resetOutput o) :=
  (Lawful.modOutput s o _).trans (Still.enableAll _ _).lawful

theorem Lawful.rebind (s : State) (o : OutputId) (bound : Option PathId) : Lawful s (s.rebind o bound) :=
  (Lawful.modOutput s o _).trans (Lawful.beginOutput _ o _)

theorem Lawful.powerDown (s : State) (set : Half) : Lawful s (s.powerDown set) :=
  (Lawful.foldl Lawful.disableOutput _ s).trans ((Lawful.foldl Lawful.disablePath _ _).trans (Lawful.foldl Lawful.disableInput _ _))

theorem Lawful.powerUp (s : State) (set : Half) : Lawful s (s.powerUp set) :=
  (Lawful.foldl Lawful.enableInput _ s).trans ((Lawful.foldl Lawful.enablePath _ _).trans (Lawful.foldl Lawful.enableOutput _ _))

theorem Lawful.setUnits (s : State) (set : Half) : Lawful s (s.setUnits set) :=
  (Lawful.modDevice s _ id).trans ((Lawful.powerDown _ _).trans (Lawful.powerUp _ _))

/-! ### What the stages and timers of a path do -/

theorem Still.raiseSpill (s : State) (p : PathId) : Still s (s.raiseSpill p) := Still.raise s _ _

theorem Still.seed (s : State) (p : PathId) (origin : TimingOrigin) (coarse : List Observation) : Still s (s.seed p origin coarse) := by
  have placed := Still.modPath s p (fun x => { x with tracker := seedTracker x.config origin coarse }) rfl rfl
    fun _ => seedTracker_ordered _ origin coarse
  exact Still.ite (placed.trans (Still.raiseSpill _ p)) placed

theorem Still.symbolPhase (s : State) (p : PathId) (r : ScanRecord) : Still s (s.modPath p (fun x => x.symbolPhase r)) :=
  Still.modPath s p _ rfl rfl id

theorem Still.framePhase (s : State) (p : PathId) (r : ScanRecord) : Still s (s.modPath p (fun x => x.framePhase r)) :=
  Still.modPath s p _ rfl rfl id

theorem Still.regainTiming (s : State) (p : PathId) : Still s (s.modPath p Path.regainTiming) := Still.modPath s p _ rfl rfl id

theorem Still.dropTiming (s : State) (p : PathId) : Still s (s.modPath p Path.dropTiming) := Still.modPath s p _ rfl rfl id

theorem Still.stepAttempts (s : State) (p : PathId) : Still s (s.modPath p Path.stepAttempts) := Still.modPath s p _ rfl rfl id

theorem Still.restartWindow (s : State) (p : PathId) : Still s (s.modPath p Path.restartWindow) := Still.modPath s p _ rfl rfl id

theorem Lawful.timingFound (p : PathId) (origin : TimingOrigin) (coarse : List Observation) (s : State) :
    Lawful s (timingFound p origin coarse s) := by
  refine Lawful.ite (Lawful.ite ?_ (Lawful.ite ?_ ?_)) (Lawful.refl s)
  · exact (Still.seed s p origin coarse).lawful.trans ((Lawful.movePath _ p _ _).trans (Still.blankIfImpulse _ p).lawful)
  · exact ((Still.regainTiming s p).trans (Still.blankIfImpulse _ p)).lawful
  · split
    · exact ((Still.seed s p origin coarse).trans ((Still.symbolPhase _ p _).trans (Still.blankIfImpulse _ p))).lawful
    · exact Lawful.refl s

theorem Lawful.frameStartFound (p : PathId) (s : State) : Lawful s (frameStartFound p s) := by
  refine Lawful.ite (Lawful.ite (Lawful.movePath s p _ _) (Lawful.ite ?_ ?_)) (Lawful.refl s)
  · exact Lawful.modPath s p _ rfl id
  · split
    · exact (Still.framePhase s p _).lawful
    · exact Lawful.refl s

theorem Lawful.takeUnsupported (s : State) (p : PathId) (d : SigRecord) : Lawful s (s.takeUnsupported p d) :=
  (Still.holdRecord s p d).lawful.trans (Lawful.takeFault _ p _ _)

theorem Lawful.takeInFrame (s : State) (p : PathId) (d : SigRecord) : Lawful s (s.takeInFrame p d) :=
  Lawful.ite ((Still.holdRecord s p d).lawful.trans ((Lawful.grant _ p _).trans (Lawful.movePath _ p _ _)))
    ((Still.holdRecord s p d).lawful.trans ((Lawful.joinQueue _ p _).trans (Lawful.movePath _ p _ _)))

theorem Lawful.takeInPageWait (s : State) (p : PathId) (d : SigRecord) : Lawful s (s.takeInPageWait p d) :=
  have left := (Still.holdRecord s p d).lawful.trans (Lawful.withdraw _ p)
  Lawful.ite (Still.holdRecord s p d).lawful (Lawful.ite (left.trans ((Lawful.grant _ p _).trans (Lawful.movePath _ p _ _)))
    (left.trans (Lawful.joinQueue _ p _)))

theorem Lawful.resize (s : State) (p : PathId) (n : Nat) : Lawful s (s.resize p n) :=
  have dropped := (Still.dropStaging s p).lawful
  Lawful.ite (dropped.trans (Lawful.movePath _ p _ _))
    (Lawful.ite (dropped.trans ((Lawful.releasePages _ p _).trans ((Lawful.movePath _ p _ _).trans (Lawful.examine _))))
      (Lawful.ite (dropped.trans ((Lawful.grant _ p _).trans (Lawful.movePath _ p _ _)))
        (dropped.trans ((Lawful.releasePages _ p _).trans ((Lawful.joinQueue _ p _).trans ((Lawful.movePath _ p _ _).trans
          (Lawful.examine _)))))))

theorem Lawful.takeWhileHolding (s : State) (p : PathId) (d : SigRecord) : Lawful s (s.takeWhileHolding p d) :=
  have held := ((Still.holdRecord s p d).trans (Still.restartWindow _ p)).lawful
  Lawful.ite held (held.trans (Lawful.resize _ p _))

theorem Lawful.recordDecoded (p : PathId) (d : SigRecord) (s : State) : Lawful s (recordDecoded p d s) := by
  refine Lawful.ite (Lawful.ite (Lawful.ite (Lawful.takeInFrame s p d) (Lawful.takeUnsupported s p d)) (Lawful.ite ?_ ?_)) (Lawful.refl s)
  · exact Lawful.ite (Lawful.ite (Lawful.ite (Lawful.takeInPageWait s p d) (Lawful.takeWhileHolding s p d)) (Lawful.takeUnsupported s p d))
      (Lawful.refl s)
  · split
    · exact Lawful.channelFind s p _ d
    · exact Lawful.refl s

theorem Lawful.fillCompleted (p : PathId) (s : State) : Lawful s (fillCompleted p s) :=
  Lawful.ite ((Lawful.enterPath s p _).trans ((Still.latchRate _ p).trans ((Still.endTune _ p _).trans (Still.raise _ _ _))).lawful)
    (Lawful.refl s)

theorem Lawful.timingLost (p : PathId) (s : State) : Lawful s (timingLost p s) := by
  refine Lawful.ite (Lawful.ite (Lawful.movePath s p _ _) (Lawful.ite ?_ (Lawful.ite ?_ (Lawful.ite ?_ (Lawful.ite ?_ ?_))))) (Lawful.refl s)
  · exact (Lawful.withdraw s p).trans (Lawful.movePath _ p _ _)
  · exact (Lawful.releaseHolding s p).trans (Lawful.movePath _ p _ _)
  · exact (Still.dropTiming s p).lawful.trans (Lawful.movePath _ p _ _)
  · exact (Still.dropTiming s p).lawful
  · split
    · exact Lawful.channelEmpty s p _
    · exact Lawful.channelEmpty s p _
    · exact Lawful.refl s

theorem Lawful.searchExpired (p : PathId) (s : State) : Lawful s (searchExpired p s) := by
  have stepped := Still.stepAttempts s p
  refine Lawful.ite (Lawful.ite (Lawful.ite ?_ ?_) ?_) (Lawful.refl s)
  · exact stepped.lawful.trans (Lawful.modPath _ p _ rfl id)
  · exact stepped.lawful.trans ((Lawful.movePath _ p _ _).trans (Still.endTune _ p _).lawful)
  · split
    · exact Lawful.channelEmpty s p _
    · exact Lawful.refl s

theorem Lawful.symbolExpired (p : PathId) (s : State) : Lawful s (symbolExpired p s) := by
  refine Lawful.ite (Lawful.ite ((Still.stepAttempts s p).lawful.trans (Lawful.movePath _ p _ _)) ?_) (Lawful.refl s)
  split
  · exact Lawful.channelEmpty s p _
  · exact Lawful.refl s

theorem Lawful.frameExpired (p : PathId) (s : State) : Lawful s (frameExpired p s) := by
  refine Lawful.ite (Lawful.ite ((Still.stepAttempts s p).lawful.trans (Lawful.movePath _ p _ _)) ?_) (Lawful.refl s)
  split
  · exact Lawful.channelEmpty s p _
  · exact Lawful.refl s

theorem Lawful.holdoverExpired (p : PathId) (s : State) : Lawful s (holdoverExpired p s) :=
  Lawful.ite ((Lawful.releaseHolding s p).trans (Lawful.movePath _ p _ _)) (Lawful.refl s)

theorem Still.reportEstimate (s : State) (p : PathId) (before : Tracker) : Still s (s.reportEstimate p before) := by
  have reported : Still s (if before.spill = (s.path p).tracker.spill then s else s.raiseSpill p) :=
    Still.ite (Still.refl s) (Still.raiseSpill s p)
  exact Still.ite (reported.trans (Still.countPath _ p _)) reported

/-- An estimate writes a lawful table (R46, R51). -/
theorem Still.estimateWrites (s : State) (p : PathId) (observed : List Observation) :
    Still s (s.modPath p (fun x => { x with tracker := (estimateTracker (s.path p).config (s.path p).tracker observed).1 })) :=
  Still.modPath s p _ rfl rfl fun before => revisedTable_ordered _ _ observed before

theorem Lawful.estimateTaken (p : PathId) (observed : List Observation) (s : State) : Lawful s (estimateTaken p observed s) :=
  have written := ((Still.estimateWrites s p observed).trans (Still.reportEstimate _ p (s.path p).tracker)).lawful
  Lawful.ite (Lawful.ite (written.trans (Lawful.takeFault _ p _ _)) written) (Lawful.refl s)

theorem Lawful.judge (s : State) (p : PathId) (r : Quality) : Lawful s (s.judge p r) :=
  Lawful.ite ((Still.modPath s p (fun x => { x with holdTiming := true }) rfl rfl id).lawful.trans (Lawful.movePath _ p _ _))
    (Lawful.ite ((Lawful.enterPath s p _).trans ((Still.latchRate _ p).trans (Still.raise _ _ _)).lawful) (Lawful.refl s))

theorem Lawful.closeWindow (s : State) (p : PathId) (q : Half) : Lawful s (s.closeWindow p q) := by
  unfold State.closeWindow
  simp only
  split
  · exact Lawful.refl s
  · exact Lawful.ite (Lawful.modPath s p _ rfl id) ((Lawful.modPath s p _ rfl id).trans (Lawful.judge _ p _))

theorem Still.closeMarks (s : State) (p : PathId) : Still s (s.modPath p (fun x => { x.nextSymbol with
    discardRun := nextDiscardRun (s.path p).symbol (s.path p).discardRun })) := Still.modPath s p _ rfl rfl id

theorem Lawful.closeBursts (s : State) (p : PathId) : Lawful s (s.closeBursts p) :=
  Lawful.ite ((Still.closeMarks s p).lawful.trans (Lawful.takeFault _ p _ _)) (Still.closeMarks s p).lawful

theorem Lawful.symbolCloses (p : PathId) (q : Half) (s : State) : Lawful s (symbolCloses p q s) :=
  Lawful.ite (Lawful.ite ((Lawful.closeWindow s p q).trans ((Lawful.closeBursts _ p).trans (Still.blankIfImpulse _ p).lawful))
    (Lawful.ite (Lawful.closeBursts s p) (Lawful.refl s))) (Lawful.refl s)

/-! ### What the units answer -/

theorem Still.configureInput (s : State) (i : InputId) (y : Input) (items : List Item) : Still s (s.configureInput i y items) := by
  have stored := (Still.modInput s i (fun x => x.store y) .rfl).trans (Still.setGain _ i y.gain)
  exact Still.ite (stored.trans (Still.setMast _ i _)) stored

theorem Still.answerSetConfig (t : Taken) (s : State) : Still s (answerSetConfig t s).state := by
  unfold Machine.answerSetConfig
  split
  · rename_i i _
    unfold setConfigInput
    split
    · exact Still.refl s
    · exact Still.refl s
    · split
      · exact Still.refl s
      · exact Still.configureInput s i _ _
  · rename_i p _
    unfold setConfigPath
    split_ifs
    · exact Still.refl s
    · exact Still.refl s
    · split
      · exact Still.refl s
      · exact Still.modPath s p (fun x => x.configure _ _) rfl rfl id
  · rename_i o _
    unfold setConfigOutput
    split
    · exact Still.refl s
    · exact Still.modOutput s o (fun x => { x with policy := _ }) .rfl
  · exact Still.refl s
  · exact Still.refl s

theorem Lawful.startTune (s : State) (p : PathId) (input : InputId) (band : Band) (channel : Nat) (offset : Int) (sender : TagPort) :
    Lawful s (s.startTune p input band channel offset sender) :=
  (Still.endTune s p _).lawful.trans ((Lawful.giveUpStore _ p).trans ((Still.modPath _ p _ rfl rfl id).lawful.trans
    (Lawful.movePath _ p _ _)))

theorem Lawful.answerTune (t : Taken) (s : State) : Lawful s (answerTune t s).state := by
  unfold Machine.answerTune
  split
  · rename_i p _ _ _ _ _ _ _
    split
    · split
      · unfold tuneChecked
        split
        · exact Lawful.refl s
        · split_ifs
          · exact Lawful.refl s
          · exact Lawful.refl s
          · exact Lawful.startTune s p _ _ _ _ _
      · exact Lawful.refl s
    · exact Lawful.refl s
  · exact Lawful.refl s

theorem Lawful.stopPath (s : State) (p : PathId) : Lawful s (s.stopPath p) := (Lawful.abandon s p).trans (Lawful.movePath _ p _ _)

theorem Lawful.answerStop (t : Taken) (s : State) : Lawful s (answerStop t s).state := by
  unfold Machine.answerStop
  split
  · rename_i p _
    split
    · unfold stopByState
      split <;> first | exact Lawful.refl s | exact Lawful.stopPath s p
    · exact Lawful.refl s
  all_goals exact Lawful.refl s

theorem Lawful.answerScan (t : Taken) (s : State) : Lawful s (answerScan t s).state := by
  unfold Machine.answerScan
  split
  · rename_i p _ _ _ _ _ _
    split
    · split
      · unfold scanChecked
        split
        · exact Lawful.refl s
        · split_ifs
          · exact Lawful.refl s
          · exact Lawful.refl s
          · exact Lawful.startScan s p _ _ _ _ _
      · exact Lawful.refl s
    · exact Lawful.refl s
  · exact Lawful.refl s

theorem Still.clearHold (s : State) (p : PathId) : Still s (s.clearHold p) := by
  have cleared := Still.modPath s p (fun x => { x with fault := { x.fault with hold := false, primary := none, saved := none } }) rfl rfl id
  unfold State.clearHold
  simp only
  split
  · exact cleared
  · exact cleared.trans (Still.setEnables _ _ _ fun legal => legal.restoreThree _)

theorem Lawful.answerAckFault (t : Taken) (s : State) : Lawful s (answerAckFault t s).state := by
  unfold Machine.answerAckFault
  split
  · rename_i p _
    unfold ackByState
    split_ifs
    · exact Lawful.refl s
    · exact (Still.clearHold s p).lawful.trans (Lawful.movePath _ p _ _)
    · exact (Still.clearHold s p).lawful
    · exact Lawful.refl s
  all_goals exact Lawful.refl s

theorem Still.answerClearCounters (t : Taken) (s : State) : Still s (answerClearCounters t s).state := by
  unfold Machine.answerClearCounters
  split
  · split
    · exact Still.foldl (fun s c => Still.setCounter s c .zero) _ s
    · exact Still.refl s
  · exact Still.refl s

theorem Still.answerMaskNotices (t : Taken) (s : State) : Still s (answerMaskNotices t s).state := by
  unfold Machine.answerMaskNotices
  split
  · split
    · rename_i operation
      exact Still.setEnables s _ _ fun legal => legal.masked _ operation
    · exact Still.refl s
  · exact Still.refl s

theorem Lawful.answerBind (t : Taken) (s : State) : Lawful s (answerBind t s).state := by
  unfold Machine.answerBind
  split
  · split
    · exact Lawful.ite (Lawful.refl s) (Lawful.rebind s _ _)
    · exact Lawful.refl s
  · exact Lawful.refl s

theorem Lawful.answerSetUnits (t : Taken) (s : State) : Lawful s (answerSetUnits t s).state := by
  unfold Machine.answerSetUnits
  split
  · split
    · exact Lawful.refl s
    · exact Lawful.setUnits s _
  · exact Lawful.refl s

theorem Still.answerSetGrants (t : Taken) (s : State) : Still s (answerSetGrants t s).state := by
  unfold Machine.answerSetGrants
  split
  · exact Still.modDevice s (fun d => { d with grants := _ }) id rfl
  · exact Still.refl s

theorem Still.answerSetReference (t : Taken) (s : State) : Still s (answerSetReference t s).state := by
  unfold Machine.answerSetReference
  split
  · split
    · exact Still.refl s
    · split
      · exact Still.refl s
      · exact Still.ite (Still.wantExternal s) (Still.wantInternal s)
  · exact Still.refl s

theorem Still.answerSetLink (t : Taken) (s : State) : Still s (answerSetLink t s).state := by
  unfold Machine.answerSetLink
  split
  · split
    · exact Still.refl s
    · exact Still.storeSpeed s _ _
  · exact Still.refl s

theorem Lawful.answerResetUnit (t : Taken) (s : State) : Lawful s (answerResetUnit t s).state := by
  unfold Machine.answerResetUnit
  split
  · exact Lawful.resetInput s _
  · exact Lawful.resetPath s _
  · exact Lawful.resetOutput s _
  · exact Lawful.refl s
  · exact Lawful.refl s

theorem Still.answerResetDevice (t : Taken) (s : State) : Still s (answerResetDevice t s).state := by
  unfold Machine.answerResetDevice
  split
  · exact Still.refl s
  · exact Still.modLink s (fun l => { l with resetDue := true }) fun _ _ h => ⟨h.1, h.2, h.3, h.4, h.5⟩

theorem answerReadTable_state (t : Taken) (s : State) : (answerReadTable t s).state = s := by
  unfold answerReadTable
  split
  · split <;> rfl
  · rfl

theorem answerReadCounters_state (t : Taken) (s : State) : (answerReadCounters t s).state = s := by
  unfold answerReadCounters
  split
  · split <;> rfl
  · rfl

/-- Whatever a unit answers, its state after is lawful. -/
theorem Lawful.answer (v : Verb) (t : Taken) (s : State) : Lawful s (answer v t s).state := by
  cases v with
  | getStatus => exact Lawful.refl s
  | setConfig => exact (Still.answerSetConfig t s).lawful
  | getConfig => exact Lawful.refl s
  | tune => exact Lawful.answerTune t s
  | stop => exact Lawful.answerStop t s
  | scan => exact Lawful.answerScan t s
  | ackFault => exact Lawful.answerAckFault t s
  | readTable => exact (answerReadTable_state t s).symm ▸ Lawful.refl s
  | readCounters => exact (answerReadCounters_state t s).symm ▸ Lawful.refl s
  | clearCounters => exact (Still.answerClearCounters t s).lawful
  | maskNotices => exact (Still.answerMaskNotices t s).lawful
  | bind => exact Lawful.answerBind t s
  | setUnits => exact Lawful.answerSetUnits t s
  | setGrants => exact (Still.answerSetGrants t s).lawful
  | setReference => exact (Still.answerSetReference t s).lawful
  | setLink => exact (Still.answerSetLink t s).lawful
  | clearScan => exact (Still.clearScan s).lawful
  | resetUnit => exact Lawful.answerResetUnit t s
  | resetDevice => exact (Still.answerResetDevice t s).lawful

/-! ### Requests, with their replies -/

/-- What every command keeps: as `Lawful`, with the reply queues at their capacity. -/
structure Sound (s t : State) : Prop where
  pending : t.pending = s.pending
  pages : PagesPartitioned s → PagesPartitioned t
  echo : EchoTablesOrdered s → EchoTablesOrdered t
  scan : ScanListOrdered s → ScanListOrdered t
  link : LinkWithin Config.replyCap Config.replyCap s.link → LinkWithin Config.replyCap Config.replyCap t.link

theorem Lawful.sound {s t : State} (h : Lawful s t) : Sound s t := ⟨h.pending, h.pages, h.echo, h.scan, h.link _ _⟩

theorem Still.sound {s t : State} (h : Still s t) : Sound s t := h.lawful.sound

theorem Sound.trans {s t u : State} (h : Sound s t) (k : Sound t u) : Sound s u :=
  ⟨k.pending.trans h.pending, k.pages ∘ h.pages, k.echo ∘ h.echo, k.scan ∘ h.scan, k.link ∘ h.link⟩

/-- A reply finds the room that was there before the request: no operation of a unit fills the reply queues. -/
theorem Lawful.sendReply {s t : State} (h : Lawful s t) (p : Port) (r : Reply)
    (room : (s.link.replies.get p).length < Config.replyCap) : Sound s (t.sendReply p r) := by
  refine ⟨h.pending, h.pages, h.echo, h.scan, fun within => ?_⟩
  cases p with
  | cp =>
    have after := h.link 7 Config.replyCap ⟨within.1, within.2, Nat.le_of_lt_succ room, within.4, within.5⟩
    exact after.reply .cp r (by decide) le_rfl (Nat.succ_le_succ after.cp)
  | sp =>
    have after := h.link Config.replyCap 7 ⟨within.1, within.2, within.3, Nat.le_of_lt_succ room, within.5⟩
    exact after.reply .sp r le_rfl (by decide) (Nat.succ_le_succ after.sp)

theorem Sound.conclude (s : State) (r : Request) (t : Taken) (f : State → Answer) (lawful : ∀ s, Lawful s (f s).state)
    (room : (s.link.replies.get r.port).length < Config.replyCap) : Sound s (s.conclude r t f) := by
  have taken (st : Status) : Lawful s ((f s).state.recordTag t st) := (lawful s).trans (Still.recordTag _ t st).lawful
  unfold State.conclude
  simp only
  split_ifs
  · exact ((Still.occupyCp s _).lawful.trans ((lawful _).trans ((Still.recordTag _ t _).trans (Still.useChoice _)).lawful)).sound
  · exact ((taken _).sendReply r.port _ room).trans (Still.useChoice _).sound
  · exact (taken _).sendReply r.port _ room
  · exact (taken _).sound

theorem Sound.takeRequest (s : State) (verb : Option Verb) (r : Request) : Sound s (s.takeRequest verb r) := by
  unfold State.takeRequest
  split
  · exact (Still.refl s).sound
  · rename_i room
    have room := Nat.lt_of_not_le room
    split
    · exact (Lawful.refl s).sendReply r.port _ room
    · split
      · exact Sound.conclude s r _ _ (Lawful.answer _ _) room
      · exact (Still.refl s).sound

theorem Sound.requestArrives (v : Verb) (r : Request) (s : State) : Sound s (requestArrives v r s) :=
  (Still.hunt s r.port).sound.trans (Sound.takeRequest _ _ r)

theorem Sound.byteArrived (p : Port) (b : Byte) (s : State) : Sound s (byteArrived p b s) := by
  unfold Machine.byteArrived
  split
  · exact (Still.ite (Still.setReceiver s p _) (Still.refl s)).sound
  · exact (Still.ite (Still.setReceiver s p _) (Still.hunt s p)).sound
  · dsimp only
    split_ifs
    · exact (Still.setReceiver s p _).sound
    · refine (Still.hunt s p).sound.trans ?_
      unfold State.takeFrame
      split
      · exact Sound.takeRequest _ _ _
      · exact (Still.refl _).sound
    · exact (Still.hunt s p).sound

/-! ### Resets of the part -/

theorem Store.initial_partitioned (s : State) (n : Nat) (store : s.store = Store.initial n) (pages : ∀ p, (s.path p).pages = []) :
    PagesPartitioned s := by
  have none : s.heldPages = [] := by
    simp only [State.heldPages]
    rw [show s.paths.p0.pages = [] from pages .p0, show s.paths.p1.pages = [] from pages .p1, show s.paths.p2.pages = [] from pages .p2,
      show s.paths.p3.pages = [] from pages .p3]
    rfl
  rw [PagesPartitioned, none, store, List.append_nil]
  exact .refl _

/-- A part at its power-on values, whatever its link block: every unit off, nothing held. -/
theorem Sound.of_initial {s t : State} (pending : t.pending = s.pending) (n : Nat) (store : t.store = Store.initial n)
    (paths : ∀ p, t.path p = Path.initial) (list : t.device.scanList = [])
    (link : LinkWithin Config.replyCap Config.replyCap t.link) : Sound s t where
  pending := pending
  pages _ := Store.initial_partitioned t n store fun p => by rw [paths p]; rfl
  echo _ p := by rw [paths p]; exact EchoTableOrdered.nil
  scan _ := by rw [scanListOrdered_iff, list]; exact ⟨Nat.zero_le _, .nil⟩
  link _ := link

theorem Paths.get_initial (p : PathId) :
    Paths.get { p0 := .initial, p1 := .initial, p2 := .initial, p3 := .initial } p = Path.initial := by
  cases p <;> rfl

theorem Sound.resetPinReleased (fitHigh refPresent : Bool) (s : State) : Sound s (resetPinReleased fitHigh refPresent s) := by
  unfold Machine.resetPinReleased
  split
  · exact Sound.of_initial rfl _ rfl Paths.get_initial rfl (Link.initial_within _ _)
  · exact (Still.refl s).sound

theorem Sound.deviceResets (s : State) : Sound s (deviceResets s) := by
  unfold Machine.deviceResets
  split
  · have within := Link.initial_within Config.replyCap Config.replyCap
    exact Sound.of_initial rfl _ rfl Paths.get_initial rfl ⟨within.1, within.2, within.3, within.4, within.5⟩
  · exact (Still.refl s).sound

end Sys2Proof.Machine
end

section
/-! The wait queue, the page lists and the states of the paths in accord (R20, R96): O56. `Accord (some p)` is the accord of a part whose path
`p` is between two states: it holds no page and stands in no queue, and its own state is not looked at. -/

namespace Sys2Proof.Machine

open Sys2Proof

/-! ### Paths after an entry, a grant, a release -/

@[simp] theorem State.enterPath_paths (s : State) (p : PathId) (new : PathState) :
    (s.enterPath p new).paths = s.paths.set p ((s.paths.get p).enter new) := by
  unfold State.enterPath
  dsimp only
  split <;> rfl

@[simp] theorem State.enterPath_store (s : State) (p : PathId) (new : PathState) : (s.enterPath p new).store = s.store := by
  unfold State.enterPath
  dsimp only
  split <;> rfl

@[simp] theorem State.movePath_paths (s : State) (p : PathId) (new : PathState) (reason : Reason) :
    (s.movePath p new reason).paths = s.paths.set p ((s.paths.get p).enter new) := s.enterPath_paths p new

@[simp] theorem State.movePath_store (s : State) (p : PathId) (new : PathState) (reason : Reason) :
    (s.movePath p new reason).store = s.store := s.enterPath_store p new

@[simp] theorem State.grant_paths (s : State) (p : PathId) (n : Nat) : (s.grant p n).paths =
    s.paths.set p { s.paths.get p with pages := (s.paths.get p).pages ++ s.store.free.take n } := rfl

@[simp] theorem State.grant_wait (s : State) (p : PathId) (n : Nat) : (s.grant p n).store.wait = s.store.wait := rfl

@[simp] theorem State.releasePages_paths (s : State) (p : PathId) (keep : Nat) : (s.releasePages p keep).paths =
    s.paths.set p { s.paths.get p with pages := (s.paths.get p).pages.take keep } := rfl

@[simp] theorem State.releasePages_wait (s : State) (p : PathId) (keep : Nat) : (s.releasePages p keep).store.wait = s.store.wait := rfl

/-! ### The inputs and outputs -/

/-- The inputs and outputs that are OFF stay so, no other comes to be, and the unit-enable set stands. -/
structure UnitsStill (s t : State) : Prop where
  unitEnable : t.device.unitEnable = s.device.unitEnable
  inputs : ∀ i, (t.input i).state = .off ↔ (s.input i).state = .off
  outputs : ∀ o, (t.output o).state = .off ↔ (s.output o).state = .off

theorem UnitsStill.refl (s : State) : UnitsStill s s := ⟨rfl, fun _ => .rfl, fun _ => .rfl⟩

theorem UnitsStill.trans {s t u : State} (h : UnitsStill s t) (k : UnitsStill t u) : UnitsStill s u :=
  ⟨k.1.trans h.1, fun i => (k.2 i).trans (h.2 i), fun o => (k.3 o).trans (h.3 o)⟩

theorem UnitsStill.ite {c : Prop} [Decidable c] {s t u : State} (h : UnitsStill s t) (k : UnitsStill s u) :
    UnitsStill s (if c then t else u) := by
  split
  · exact h
  · exact k

theorem Still.units {s t : State} (h : Still s t) : UnitsStill s t := ⟨h.unitEnable, h.inputs, h.outputs⟩

theorem UnitsStill.modPath (s : State) (p : PathId) (f : Path → Path) : UnitsStill s (s.modPath p f) := ⟨rfl, fun _ => .rfl, fun _ => .rfl⟩

theorem UnitsStill.modStore (s : State) (f : Store → Store) : UnitsStill s (s.modStore f) := ⟨rfl, fun _ => .rfl, fun _ => .rfl⟩

theorem UnitsStill.enterPath (s : State) (p : PathId) (new : PathState) : UnitsStill s (s.enterPath p new) :=
  (UnitsStill.modPath s p _).trans (enterPath_still_modPath s p new).units

theorem UnitsStill.movePath (s : State) (p : PathId) (new : PathState) (reason : Reason) : UnitsStill s (s.movePath p new reason) :=
  (UnitsStill.enterPath s p new).trans (Still.raise _ _ _).units

theorem UnitsStill.grant (s : State) (p : PathId) (n : Nat) : UnitsStill s (s.grant p n) := (UnitsStill.modPath s p _).trans (UnitsStill.modStore _ _)

theorem UnitsStill.releasePages (s : State) (p : PathId) (keep : Nat) : UnitsStill s (s.releasePages p keep) :=
  (UnitsStill.modStore s _).trans (UnitsStill.modPath _ p _)

theorem UnitsStill.examineUpTo (n : Nat) : ∀ s : State, UnitsStill s (State.examineUpTo n s) := by
  induction n with
  | zero => exact UnitsStill.refl
  | succ n ih =>
    intro s
    unfold State.examineUpTo
    split
    · exact UnitsStill.refl s
    · exact UnitsStill.ite (((UnitsStill.modStore s _).trans ((UnitsStill.grant _ _ _).trans (UnitsStill.movePath _ _ _ _))).trans (ih _))
        (UnitsStill.refl s)

theorem UnitsStill.examine (s : State) : UnitsStill s s.examine := UnitsStill.examineUpTo _ s

theorem UnitsStill.releaseHolding (s : State) (p : PathId) : UnitsStill s (s.releaseHolding p) :=
  UnitsStill.ite (UnitsStill.refl s)
    ((UnitsStill.releasePages s p 0).trans ((Still.dropStaging _ p).units.trans (UnitsStill.examine _)))

theorem UnitsStill.withdraw (s : State) (p : PathId) : UnitsStill s (s.withdraw p) :=
  UnitsStill.ite ((UnitsStill.modStore s _).trans (UnitsStill.examine _)) (UnitsStill.refl s)

theorem UnitsStill.giveUpStore (s : State) (p : PathId) : UnitsStill s (s.giveUpStore p) :=
  (UnitsStill.releaseHolding s p).trans (UnitsStill.withdraw _ p)

/-! ### Accord -/

/-- The paths that stand in the wait queue. -/
abbrev State.waiting (s : State) : List PathId := s.store.wait.map Waiting.path

/-- The wait queue holds each path in PAGE_WAIT once, and only FILL, LOCKED and HOLDOVER hold pages, but for a path between two states, which
neither waits nor holds. -/
structure Accord (x : Option PathId) (s : State) : Prop where
  nodup : s.waiting.Nodup
  waits : ∀ q, q ∈ s.waiting ↔ some q ≠ x ∧ (s.path q).state = .pageWait
  pages : ∀ q, some q = x ∨ (s.path q).state.holding = false → (s.path q).pages = []

theorem holdingsMatchStates_iff (s : State) : HoldingsMatchStates s ↔ Accord none s := by
  constructor
  · rintro ⟨nodup, waits, pages⟩
    exact ⟨nodup, fun q => by simpa using waits q, fun q h => pages q (h.resolve_left nofun)⟩
  · rintro ⟨nodup, waits, pages⟩
    exact ⟨nodup, fun q => by simpa using waits q, fun q h => pages q (.inr h)⟩

/-- Accord looks at the queue, the states and the lists alone. -/
theorem Accord.of_same {x : Option PathId} {s t : State} (h : Accord x s) (wait : t.store.wait = s.store.wait)
    (state : ∀ q, (t.path q).state = (s.path q).state) (pages : ∀ q, (t.path q).pages = (s.path q).pages) : Accord x t := by
  refine ⟨?_, fun q => ?_, fun q => ?_⟩
  · rw [State.waiting, wait]
    exact h.nodup
  · rw [State.waiting, wait, state q]
    exact h.waits q
  · rw [state q, pages q]
    exact h.pages q

theorem Still.accord {x : Option PathId} {s t : State} (still : Still s t) (h : Accord x s) : Accord x t :=
  h.of_same still.wait still.pathState still.pages

/-- A path in another state than PAGE_WAIT does not wait. -/
theorem Accord.not_waiting {s : State} {p : PathId} (h : Accord none s) (state : (s.path p).state ≠ .pageWait) : p ∉ s.waiting :=
  fun mem => state ((h.waits p).mp mem).2

/-- A path between two states does not wait. -/
theorem Accord.absent {p : PathId} {s : State} (h : Accord (some p) s) : p ∉ s.waiting := fun mem => ((h.waits p).mp mem).1 rfl

/-- A path that neither waits nor holds may be taken out. -/
theorem Accord.takeOut {s : State} (h : Accord none s) (p : PathId) (absent : p ∉ s.waiting) (empty : (s.path p).pages = []) :
    Accord (some p) s := by
  refine ⟨h.nodup, fun q => ?_, fun q none => ?_⟩
  · by_cases same : q = p
    · subst same
      simpa using absent
    · simpa [same] using h.waits q
  · rcases none with same | free
    · rw [Option.some.inj same]
      exact empty
    · exact h.pages q (.inr free)

/-- A path between two states enters one, with pages or none, waiting or not, as the state wants it. -/
theorem Accord.putIn {s t : State} {p : PathId} (h : Accord (some p) s)
    (wait : t.waiting = if (t.path p).state = .pageWait then s.waiting ++ [p] else s.waiting)
    (empty : (t.path p).state.holding = false → (t.path p).pages = [])
    (state : ∀ q, q ≠ p → (t.path q).state = (s.path q).state) (pages : ∀ q, q ≠ p → (t.path q).pages = (s.path q).pages) :
    Accord none t := by
  have absent := h.absent
  refine ⟨?_, fun q => ?_, fun q free => ?_⟩
  · rw [wait]
    split
    · exact List.nodup_append.mpr ⟨h.nodup, List.nodup_singleton p, by
        rintro a mem b single rfl
        rw [List.mem_singleton.mp single] at mem
        exact absent mem⟩
    · exact h.nodup
  · rw [wait]
    by_cases same : q = p
    · subst same
      split <;> simp_all
    · have before := h.waits q
      rw [state q same]
      split <;> simp_all
  · have free := free.resolve_left nofun
    by_cases same : q = p
    · subst same
      exact empty free
    · rw [pages q same]
      exact h.pages q (.inr (state q same ▸ free))

/-! ### An examination of the wait queue (R100) -/

/-- The head of the queue is granted its pages and enters FILL (R98, R100). -/
def State.serveHead (s : State) (w : Waiting) (rest : List Waiting) : State :=
  ((s.modStore (fun t => { t with wait := rest })).grant w.path w.need).movePath w.path .fill .pages

theorem serveHead_path_ne (s : State) {w : Waiting} {rest : List Waiting} {q : PathId} (other : q ≠ w.path) :
    (s.serveHead w rest).path q = s.path q := by
  simp [State.serveHead, Paths.get_set_ne _ _ other]

theorem serveHead_state (s : State) (w : Waiting) (rest : List Waiting) : ((s.serveHead w rest).path w.path).state = .fill := by
  simp [State.serveHead]

theorem serveHead_wait (s : State) (w : Waiting) (rest : List Waiting) : (s.serveHead w rest).store.wait = rest := by
  simp [State.serveHead]

theorem Accord.serveHead {x : Option PathId} {s : State} (h : Accord x s) {w : Waiting} {rest : List Waiting}
    (head : s.store.wait = w :: rest) : Accord x (s.serveHead w rest) := by
  have waiting : s.waiting = w.path :: rest.map Waiting.path := by rw [State.waiting, head, List.map_cons]
  have nodup := h.nodup
  rw [waiting, List.nodup_cons] at nodup
  have served : some w.path ≠ x := ((h.waits w.path).mp (waiting ▸ List.mem_cons_self)).1
  refine ⟨?_, fun q => ?_, fun q free => ?_⟩
  · rw [State.waiting, serveHead_wait]
    exact nodup.2
  · rw [State.waiting, serveHead_wait]
    by_cases same : q = w.path
    · subst same
      rw [serveHead_state]
      simp [nodup.1]
    · have before := h.waits q
      rw [waiting, List.mem_cons, or_iff_right same] at before
      rw [serveHead_path_ne s same]
      exact before
  · by_cases same : q = w.path
    · subst same
      rw [serveHead_state] at free
      exact absurd free (by simp [served, PathState.holding])
    · rw [serveHead_path_ne s same] at free ⊢
      exact h.pages q free

/-- An examination keeps accord, and moves no path but the waiting ones, none of which is OFF. -/
theorem examineUpTo_accord (n : Nat) : ∀ {x : Option PathId} {s : State}, Accord x s → Accord x (State.examineUpTo n s) ∧
    (∀ q, ((State.examineUpTo n s).path q).state = .off ↔ (s.path q).state = .off) ∧
    (∀ q, q ∉ s.waiting → (State.examineUpTo n s).path q = s.path q) := by
  induction n with
  | zero => exact fun h => ⟨h, fun _ => .rfl, fun _ _ => rfl⟩
  | succ n ih =>
    intro x s h
    unfold State.examineUpTo
    split
    · exact ⟨h, fun _ => .rfl, fun _ _ => rfl⟩
    · rename_i w rest head
      split
      · obtain ⟨accord, off, rest'⟩ := ih (h.serveHead head)
        have waiting : s.waiting = w.path :: rest.map Waiting.path := by rw [State.waiting, head, List.map_cons]
        have left : (s.serveHead w rest).waiting = rest.map Waiting.path := by rw [State.waiting, serveHead_wait]
        refine ⟨accord, fun q => (off q).trans ?_, fun q absent => ?_⟩
        · by_cases same : q = w.path
          · subst same
            have waits := ((h.waits w.path).mp (waiting ▸ List.mem_cons_self)).2
            rw [serveHead_state, waits]
            simp
          · rw [serveHead_path_ne s same]
        · rw [waiting, List.mem_cons, not_or] at absent
          exact (rest' q (left ▸ absent.2)).trans (serveHead_path_ne s absent.1)
      · exact ⟨h, fun _ => .rfl, fun _ _ => rfl⟩

theorem Accord.examine {x : Option PathId} {s : State} (h : Accord x s) : Accord x s.examine := (examineUpTo_accord _ h).1

theorem Accord.examine_off {x : Option PathId} {s : State} (h : Accord x s) (q : PathId) :
    (s.examine.path q).state = .off ↔ (s.path q).state = .off := (examineUpTo_accord _ h).2.1 q

theorem Accord.examine_path {x : Option PathId} {s : State} (h : Accord x s) {q : PathId} (absent : q ∉ s.waiting) :
    s.examine.path q = s.path q := (examineUpTo_accord _ h).2.2 q absent

/-! ### Giving up what a path has at the store -/

/-- Off-ness of the paths. -/
abbrev SameOffPaths (s t : State) : Prop := ∀ q, (t.path q).state = .off ↔ (s.path q).state = .off

theorem Accord.releasePages {s : State} (h : Accord none s) (p : PathId) (keep : Nat) : Accord none (s.releasePages p keep) := by
  have state (q : PathId) : ((s.releasePages p keep).path q).state = (s.path q).state := by
    by_cases same : q = p
    · subst same
      simp
    · simp [Paths.get_set_ne _ _ same]
  refine ⟨h.nodup, fun q => ?_, fun q free => ?_⟩
  · rw [state q]
    exact h.waits q
  · rw [state q] at free
    have empty := h.pages q free
    by_cases same : q = p
    · subst same
      simp only [State.path_eq] at empty
      simp [empty]
    · simpa [Paths.get_set_ne _ _ same] using empty

theorem releasePages_state (s : State) (p : PathId) (keep : Nat) (q : PathId) :
    ((s.releasePages p keep).path q).state = (s.path q).state := by
  by_cases same : q = p
  · subst same
    simp
  · simp [Paths.get_set_ne _ _ same]

/-- A path that releases its holding keeps its state and has no pages left (R99). -/
theorem releaseHolding_accord {s : State} (h : Accord none s) (p : PathId) : Accord none (s.releaseHolding p) ∧
    SameOffPaths s (s.releaseHolding p) ∧ ((s.releaseHolding p).path p).pages = [] ∧
    ((s.releaseHolding p).path p).state = (s.path p).state := by
  unfold State.releaseHolding
  split
  · rename_i empty
    exact ⟨h, fun _ => .rfl, List.isEmpty_iff.mp empty, rfl⟩
  · rename_i held
    have dropped := Still.dropStaging (s.releasePages p 0) p
    have accord := dropped.accord (h.releasePages p 0)
    have state (q : PathId) : (((s.releasePages p 0).dropStaging p).path q).state = (s.path q).state :=
      (dropped.pathState q).trans (releasePages_state s p 0 q)
    have busy : (s.path p).state ≠ .pageWait := fun waits => held (List.isEmpty_iff.mpr (h.pages p (.inr (by rw [waits]; rfl))))
    have absent : p ∉ ((s.releasePages p 0).dropStaging p).waiting := accord.not_waiting (state p ▸ busy)
    refine ⟨accord.examine, fun q => (accord.examine_off q).trans (by rw [state q]), ?_, ?_⟩
    · rw [accord.examine_path absent, dropped.pages p]
      simp
    · rw [accord.examine_path absent, state p]

theorem waits_iff (s : State) (p : PathId) : s.waits p = true ↔ p ∈ s.waiting := by
  simp [State.waits, State.waiting]

/-- A path without pages that leaves the queue is between two states (R101). -/
theorem withdraw_accord {s : State} (h : Accord none s) (p : PathId) (empty : (s.path p).pages = []) :
    Accord (some p) (s.withdraw p) ∧ SameOffPaths s (s.withdraw p) ∧ ((s.withdraw p).path p).state = (s.path p).state := by
  unfold State.withdraw
  split
  · have left : (s.modStore (fun t => { t with wait := t.wait.filter (fun w => w.path != p) })).waiting =
        s.waiting.filter (fun q => q != p) := by
      simp [State.waiting, List.filter_map, Function.comp_def]
    have accord : Accord (some p) (s.modStore (fun t => { t with wait := t.wait.filter (fun w => w.path != p) })) := by
      refine ⟨left ▸ h.nodup.filter _, fun q => ?_, fun q free => ?_⟩
      · have before := h.waits q
        rw [left, List.mem_filter, before]
        simp [and_comm]
      · rcases free with same | free
        · rw [Option.some.inj same]
          exact empty
        · exact h.pages q (.inr free)
    refine ⟨accord.examine, accord.examine_off, ?_⟩
    rw [accord.examine_path accord.absent]
    rfl
  · rename_i absent
    rw [waits_iff] at absent
    exact ⟨h.takeOut p absent empty, fun _ => .rfl, rfl⟩

/-- A path that gives up what it has at the store is between two states (R20, R99, R101). -/
theorem giveUpStore_accord {s : State} (h : Accord none s) (p : PathId) :
    Accord (some p) (s.giveUpStore p) ∧ SameOffPaths s (s.giveUpStore p) := by
  obtain ⟨released, off, empty, -⟩ := releaseHolding_accord h p
  obtain ⟨accord, off', -⟩ := withdraw_accord released p empty
  exact ⟨accord, fun q => (off' q).trans (off q)⟩

/-! ### Entering a state -/

theorem enterPath_path_self (s : State) (p : PathId) (new : PathState) : (s.enterPath p new).path p = (s.path p).enter new := by simp

theorem enterPath_path_ne (s : State) {p q : PathId} (new : PathState) (other : q ≠ p) : (s.enterPath p new).path q = s.path q := by
  simp [Paths.get_set_ne _ _ other]

/-- A path between two states enters one in which it does not wait. -/
theorem Accord.enter {s : State} {p : PathId} (h : Accord (some p) s) {new : PathState} (busy : new ≠ .pageWait) :
    Accord none (s.enterPath p new) := by
  refine h.putIn ?_ (fun _ => ?_) (fun q other => ?_) (fun q other => ?_)
  · rw [enterPath_path_self, Path.enter_state, if_neg busy, State.waiting, State.enterPath_store]
  · rw [enterPath_path_self, Path.enter_pages]
    exact h.pages p (.inl rfl)
  · rw [enterPath_path_ne s new other]
  · rw [enterPath_path_ne s new other]

/-- A path between two states is granted pages and enters FILL (R98). -/
theorem Accord.enterFill {s : State} {p : PathId} (h : Accord (some p) s) (n : Nat) : Accord none ((s.grant p n).enterPath p .fill) := by
  refine h.putIn ?_ (fun free => ?_) (fun q other => ?_) (fun q other => ?_)
  · simp [State.waiting]
  · rw [enterPath_path_self, Path.enter_state] at free
    exact absurd free (by decide)
  · simp [Paths.get_set_ne _ _ other]
  · simp [Paths.get_set_ne _ _ other]

/-- A path between two states joins the queue and enters PAGE_WAIT (R96). -/
theorem Accord.enterPageWait {s : State} {p : PathId} (h : Accord (some p) s) (n : Nat) :
    Accord none ((s.joinQueue p n).enterPath p .pageWait) := by
  refine h.putIn ?_ (fun _ => ?_) (fun q other => ?_) (fun q other => ?_)
  · simp [State.joinQueue, State.waiting]
  · rw [enterPath_path_self, Path.enter_pages]
    exact h.pages p (.inl rfl)
  · rw [enterPath_path_ne _ _ other]
    rfl
  · rw [enterPath_path_ne _ _ other]
    rfl

/-- A path in PAGE_WAIT that has left the queue joins it again. -/
theorem Accord.rejoin {s : State} {p : PathId} (h : Accord (some p) s) (n : Nat) (state : (s.path p).state = .pageWait) :
    Accord none (s.joinQueue p n) := by
  refine h.putIn ?_ (fun _ => h.pages p (.inl rfl)) (fun q _ => rfl) (fun q _ => rfl)
  rw [if_pos (show ((s.joinQueue p n).path p).state = .pageWait from state)]
  simp [State.joinQueue, State.waiting]

/-- A path that does not wait enters a state in which it does not wait, and keeps its pages only in a state that holds them. -/
theorem Accord.move {s : State} (h : Accord none s) (p : PathId) {new : PathState} (state : (s.path p).state ≠ .pageWait)
    (busy : new ≠ .pageWait) (empty : new.holding = false → (s.path p).pages = []) : Accord none (s.enterPath p new) := by
  refine ⟨?_, fun q => ?_, fun q free => ?_⟩
  · rw [State.waiting, State.enterPath_store]
    exact h.nodup
  · rw [State.waiting, State.enterPath_store]
    by_cases same : q = p
    · subst same
      rw [enterPath_path_self, Path.enter_state]
      simp [h.not_waiting state, busy]
    · rw [enterPath_path_ne s new same]
      exact h.waits q
  · by_cases same : q = p
    · subst same
      rw [enterPath_path_self, Path.enter_state] at free
      rw [enterPath_path_self, Path.enter_pages]
      exact empty (free.resolve_left nofun)
    · rw [enterPath_path_ne s new same] at free ⊢
      exact h.pages q free

end Sys2Proof.Machine
end

section
/-! Which commands move a unit into or out of OFF: SET_UNITS, and no other at a unit that the unit-enable set names (R182): O56, O57. -/

namespace Sys2Proof.Machine

open Sys2Proof

/-! ### OFF -/

/-- The unit is OFF; the device and store units never are. -/
def State.isOff (s : State) : UnitId → Prop
  | .device => False
  | .input i => (s.input i).state = .off
  | .path p => (s.path p).state = .off
  | .output o => (s.output o).state = .off
  | .store => False

theorem enablesMatchStates_iff (s : State) : EnablesMatchStates s ↔ ∀ u, s.unitEnabled u = true ↔ ¬s.isOff u := by
  constructor
  · rintro ⟨inputs, paths, outputs⟩ u
    cases u with
    | device => exact ⟨fun _ => id, fun _ => rfl⟩
    | store => exact ⟨fun _ => id, fun _ => rfl⟩
    | input i => exact inputs i
    | path p => exact paths p
    | output o => exact outputs o
  · exact fun h => ⟨fun i => h (.input i), fun p => h (.path p), fun o => h (.output o)⟩

theorem unitEnabled_congr {s t : State} (same : t.device.unitEnable = s.device.unitEnable) (u : UnitId) :
    t.unitEnabled u = s.unitEnabled u := by
  cases u <;> simp only [State.unitEnabled, same]

/-- From accord: accord again, the same unit-enable set, and every unit but perhaps the named one in or out of OFF as before. -/
def Moves (e : Option UnitId) (s t : State) : Prop :=
  Accord none s → Accord none t ∧ t.device.unitEnable = s.device.unitEnable ∧ ∀ u, some u ≠ e → (t.isOff u ↔ s.isOff u)

theorem Moves.refl (e : Option UnitId) (s : State) : Moves e s s := fun h => ⟨h, rfl, fun _ _ => .rfl⟩

theorem Moves.trans {e : Option UnitId} {s t u : State} (h : Moves e s t) (k : Moves e t u) : Moves e s u := by
  intro accord
  obtain ⟨accord, enable, off⟩ := h accord
  obtain ⟨accord, enable', off'⟩ := k accord
  exact ⟨accord, enable'.trans enable, fun v other => (off' v other).trans (off v other)⟩

theorem Moves.ite {e : Option UnitId} {c : Prop} [Decidable c] {s t u : State} (h : c → Moves e s t) (k : ¬c → Moves e s u) :
    Moves e s (if c then t else u) := by
  split
  · exact h ‹_›
  · exact k ‹_›

theorem Moves.but {s t : State} (h : Moves none s t) (e : Option UnitId) : Moves e s t := by
  intro accord
  obtain ⟨accord, enable, off⟩ := h accord
  exact ⟨accord, enable, fun u _ => off u nofun⟩

/-- A unit that is as much OFF after as before is no exception. -/
theorem Moves.settle {s t : State} {u : UnitId} (h : Moves (some u) s t) (same : Accord none s → (t.isOff u ↔ s.isOff u)) :
    Moves none s t := by
  intro before
  obtain ⟨accord, enable, off⟩ := h before
  refine ⟨accord, enable, fun v _ => ?_⟩
  by_cases eq : v = u
  · rw [eq]
    exact same before
  · exact off v (fun some => eq (Option.some.inj some))

theorem UnitsStill.isOff {s t : State} (units : UnitsStill s t) {P : PathId → Prop}
    (off : ∀ q, P q → ((t.path q).state = .off ↔ (s.path q).state = .off)) (u : UnitId) (in_scope : ∀ q, u = .path q → P q) :
    t.isOff u ↔ s.isOff u := by
  cases u with
  | device => exact .rfl
  | store => exact .rfl
  | input i => exact units.inputs i
  | path q => exact off q (in_scope q rfl)
  | output o => exact units.outputs o

theorem Still.moves {s t : State} (h : Still s t) (e : Option UnitId) : Moves e s t := fun accord =>
  ⟨h.accord accord, h.unitEnable, fun u _ =>
    h.units.isOff (P := fun _ => True) (fun q _ => by rw [h.pathState q]) u fun _ _ => trivial⟩

theorem Moves.modInput (s : State) (i : InputId) (f : Input → Input) : Moves (some (.input i)) s (s.modInput i f) := by
  intro accord
  refine ⟨accord.of_same rfl (fun _ => rfl) (fun _ => rfl), rfl, fun u other => ?_⟩
  cases u with
  | input j =>
    have ne : j ≠ i := fun eq => other (by rw [eq])
    simp [State.isOff, Inputs.get_set_ne _ _ ne]
  | device | path _ | output _ | store => exact .rfl

theorem Moves.modOutput (s : State) (o : OutputId) (f : Output → Output) : Moves (some (.output o)) s (s.modOutput o f) := by
  intro accord
  refine ⟨accord.of_same rfl (fun _ => rfl) (fun _ => rfl), rfl, fun u other => ?_⟩
  cases u with
  | output n =>
    have ne : n ≠ o := fun eq => other (by rw [eq])
    simp [State.isOff, Outputs.get_set_ne _ _ ne]
  | device | path _ | input _ | store => exact .rfl

/-! ### A path that leaves one state for another -/

/-- From accord, an operation that takes the path out between two states. -/
structure Departs (p : PathId) (s t : State) : Prop where
  units : UnitsStill s t
  accord : Accord none s → Accord (some p) t
  off : Accord none s → SameOffPaths s t

theorem Departs.still {p : PathId} {s t u : State} (h : Departs p s t) (k : Still t u) : Departs p s u :=
  ⟨h.units.trans k.units, fun before => k.accord (h.accord before), fun before q => by rw [k.pathState q]; exact h.off before q⟩

theorem Still.departs {p : PathId} {s t u : State} (h : Still s t) (k : Departs p t u) : Departs p s u :=
  ⟨h.units.trans k.units, fun before => k.accord (h.accord before),
    fun before q => (k.off (h.accord before) q).trans (by rw [h.pathState q])⟩

theorem Departs.giveUpStore (s : State) (p : PathId) : Departs p s (s.giveUpStore p) :=
  ⟨UnitsStill.giveUpStore s p, fun before => (giveUpStore_accord before p).1, fun before => (giveUpStore_accord before p).2⟩

theorem Departs.abandon (s : State) (p : PathId) : Departs p s (((s.endTune p .stopped).stopScan p).giveUpStore p) :=
  ((Still.endTune s p _).trans (Still.stopScan _ p)).departs (Departs.giveUpStore _ p)

/-- A path that neither waits nor holds is as good as departed. -/
theorem Departs.free {s : State} {p : PathId} (state : (s.path p).state ≠ .pageWait) (holding : (s.path p).state.holding = false) :
    Departs p s s :=
  ⟨UnitsStill.refl s, fun before => before.takeOut p (before.not_waiting state) (before.pages p (.inr holding)), fun _ _ => .rfl⟩

theorem Departs.withdraw {s : State} {p : PathId} (state : (s.path p).state.holding = false) : Departs p s (s.withdraw p) :=
  ⟨UnitsStill.withdraw s p, fun before => (withdraw_accord before p (before.pages p (.inr state))).1,
    fun before => (withdraw_accord before p (before.pages p (.inr state))).2.1⟩

/-- Only the path itself may go into or out of OFF. -/
theorem Departs.movesTo {p : PathId} {s t u : State} (h : Departs p s t) (units : UnitsStill t u)
    (accord : Accord (some p) t → Accord none u) (others : ∀ q, q ≠ p → (u.path q).state = (t.path q).state) :
    Moves (some (.path p)) s u := by
  intro before
  refine ⟨accord (h.accord before), (h.units.trans units).unitEnable, fun v other => ?_⟩
  refine (h.units.trans units).isOff (P := fun q => q ≠ p) (fun q ne => ?_) v fun q eq same => other (by rw [eq, same])
  rw [others q ne]
  exact h.off before q

theorem Departs.enter {p : PathId} {s t : State} (h : Departs p s t) {new : PathState} (busy : new ≠ .pageWait) :
    Moves (some (.path p)) s (t.enterPath p new) :=
  h.movesTo (UnitsStill.enterPath t p new) (fun accord => accord.enter busy) fun q other => by rw [enterPath_path_ne t new other]

/-- A path that is ON before and after. -/
theorem Moves.stayOn {s t : State} {p : PathId} (h : Moves (some (.path p)) s t) (before : (s.path p).state ≠ .off)
    (after : (t.path p).state ≠ .off) : Moves none s t := h.settle fun _ => iff_of_false after before

theorem Departs.enterOn {p : PathId} {s t : State} (h : Departs p s t) {new : PathState} (busy : new ≠ .pageWait)
    (before : (s.path p).state ≠ .off) (on : new ≠ .off) : Moves none s (t.enterPath p new) :=
  (h.enter busy).stayOn before (by rw [enterPath_path_self]; exact on)

theorem Departs.moveOn {p : PathId} {s t : State} (h : Departs p s t) {new : PathState} (busy : new ≠ .pageWait)
    (before : (s.path p).state ≠ .off) (on : new ≠ .off) (reason : Reason) : Moves none s (t.movePath p new reason) :=
  (h.enterOn busy before on).trans ((Still.raise _ _ _).moves _)

theorem Departs.fill {p : PathId} {s t : State} (h : Departs p s t) (before : (s.path p).state ≠ .off) (n : Nat) (reason : Reason) :
    Moves none s ((t.grant p n).movePath p .fill reason) := by
  refine Moves.trans (Moves.stayOn (h.movesTo ((UnitsStill.grant t p n).trans (UnitsStill.enterPath _ p .fill))
    (fun accord => accord.enterFill n) fun q other => ?_) before ?_) ((Still.raise _ _ _).moves _)
  · simp [Paths.get_set_ne _ _ other]
  · simp

theorem Departs.queue {p : PathId} {s t : State} (h : Departs p s t) (before : (s.path p).state ≠ .off) (n : Nat) (reason : Reason) :
    Moves none s ((t.joinQueue p n).movePath p .pageWait reason) := by
  refine Moves.trans (Moves.stayOn (h.movesTo ((UnitsStill.modStore t _).trans (UnitsStill.enterPath _ p .pageWait))
    (fun accord => accord.enterPageWait n) fun q other => ?_) before ?_) ((Still.raise _ _ _).moves _)
  · rw [enterPath_path_ne _ _ other]
    rfl
  · rw [enterPath_path_self]
    simp

/-- A path that does not wait enters a state that does not either, keeping its pages or having none. -/
theorem Moves.enterPath (s : State) (p : PathId) {new : PathState} (state : (s.path p).state ≠ .pageWait) (busy : new ≠ .pageWait)
    (pages : new.holding = true ∨ (s.path p).state.holding = false) : Moves (some (.path p)) s (s.enterPath p new) := by
  intro before
  refine ⟨before.move p state busy fun free => before.pages p (.inr (pages.resolve_left (by simp [free]))),
    (UnitsStill.enterPath s p new).unitEnable, fun u other => ?_⟩
  refine (UnitsStill.enterPath s p new).isOff (P := fun q => q ≠ p) (fun q ne => ?_) u fun q eq same => other (by rw [eq, same])
  rw [enterPath_path_ne s new ne]

theorem Moves.enterPathOn (s : State) (p : PathId) {new : PathState} (state : (s.path p).state ≠ .pageWait) (busy : new ≠ .pageWait)
    (pages : new.holding = true ∨ (s.path p).state.holding = false) (before : (s.path p).state ≠ .off) (on : new ≠ .off) :
    Moves none s (s.enterPath p new) :=
  (Moves.enterPath s p state busy pages).stayOn before (by rw [enterPath_path_self]; exact on)

/-- A change of state of a path that is ON, neither waits nor goes to wait, and drops no page by it. -/
theorem Moves.change {s : State} {p : PathId} {old new : PathState} (state : (s.path p).state = old)
    (allowed : old ≠ .pageWait ∧ new ≠ .pageWait ∧ (new.holding = true ∨ old.holding = false) ∧ old ≠ .off ∧ new ≠ .off) :
    Moves none s (s.enterPath p new) := by
  obtain ⟨waits, busy, pages, before, on⟩ := allowed
  subst state
  exact Moves.enterPathOn s p waits busy pages before on

theorem Moves.changeTold {s : State} {p : PathId} {old new : PathState} (state : (s.path p).state = old)
    (allowed : old ≠ .pageWait ∧ new ≠ .pageWait ∧ (new.holding = true ∨ old.holding = false) ∧ old ≠ .off ∧ new ≠ .off)
    (reason : Reason) : Moves none s (s.movePath p new reason) :=
  (Moves.change state allowed).trans ((Still.raise _ _ _).moves _)

/-- A path that has released its holding enters a state without pages (R38, R87). -/
theorem Moves.releaseMove (s : State) (p : PathId) {new : PathState} (reason : Reason) (state : (s.path p).state.holding = true)
    (busy : new ≠ .pageWait) (on : new ≠ .off) : Moves none s ((s.releaseHolding p).movePath p new reason) := by
  have before : (s.path p).state ≠ .off := fun off => absurd state (by rw [off]; decide)
  have waits : (s.path p).state ≠ .pageWait := fun waits => absurd state (by rw [waits]; decide)
  refine Moves.trans (Moves.stayOn (fun accord => ?_) before ?_) ((Still.raise _ _ _).moves _)
  · obtain ⟨released, off, empty, kept⟩ := releaseHolding_accord accord p
    have units := (UnitsStill.releaseHolding s p).trans (UnitsStill.enterPath _ p new)
    refine ⟨released.move p (kept ▸ waits) busy fun _ => empty, units.unitEnable, fun u other => ?_⟩
    refine units.isOff (P := fun q => q ≠ p) (fun q ne => ?_) u fun q eq same => other (by rw [eq, same])
    rw [enterPath_path_ne _ new ne]
    exact off q
  · rw [enterPath_path_self]
    exact on

theorem Moves.examine (s : State) : Moves none s s.examine := fun accord =>
  ⟨accord.examine, (UnitsStill.examine s).unitEnable, fun u _ =>
    (UnitsStill.examine s).isOff (P := fun _ => True) (fun q _ => accord.examine_off q) u fun _ _ => trivial⟩

theorem Moves.releasePages (s : State) (p : PathId) (keep : Nat) : Moves none s (s.releasePages p keep) := fun accord =>
  ⟨accord.releasePages p keep, (UnitsStill.releasePages s p keep).unitEnable, fun u _ =>
    (UnitsStill.releasePages s p keep).isOff (P := fun _ => True) (fun q _ => by rw [releasePages_state s p keep q]) u
      fun _ _ => trivial⟩

/-! ### Faults -/

theorem Moves.takeFault (s : State) (p : PathId) (cause : FaultCause) (value : Word) (on : (s.path p).state ≠ .off) :
    Moves none s (s.takeFault p cause value) := by
  refine Moves.ite (fun _ => ?_) (fun _ => ?_)
  · have departs := (Still.modPath s p (fun x => { x with fault := { x.fault with secondary := some cause } }) rfl rfl id).departs
      (Departs.giveUpStore _ p)
    exact (departs.enterOn (by decide) on (by decide)).trans
      (((Still.raise _ _ _).trans ((Still.raise _ _ _).trans (Still.endTune _ p _))).moves _)
  · exact (((Still.firstFaultWrites s p cause).departs (Departs.giveUpStore _ p)).enterOn (by decide) on (by decide)).trans
      (((Still.raise _ _ _).trans (Still.endTune _ p _)).moves _)

/-! ### What the stages and timers of a path do -/

theorem Path.scanIn_state {x : Path} {phase : ScanPhase} {r : ScanRecord} (scans : x.scanIn phase = some r) : x.state = .scan := by
  by_contra other
  simp [Path.scanIn, other] at scans

theorem Moves.timingFound (p : PathId) (origin : TimingOrigin) (coarse : List Observation) (s : State) :
    Moves none s (timingFound p origin coarse s) := by
  have seeded := Still.seed s p origin coarse
  refine Moves.ite (fun _ => Moves.ite (fun search => ?_) fun _ => Moves.ite (fun _ => ?_) fun _ => ?_) fun _ => Moves.refl _ s
  · exact (seeded.moves _).trans ((Moves.changeTold ((seeded.pathState p).trans search) (by decide) _).trans
      ((Still.blankIfImpulse _ p).moves _))
  · exact ((Still.regainTiming s p).trans (Still.blankIfImpulse _ p)).moves _
  · split
    · exact (seeded.trans ((Still.symbolPhase _ p _).trans (Still.blankIfImpulse _ p))).moves _
    · exact Moves.refl _ s

theorem Moves.frameStartFound (p : PathId) (s : State) : Moves none s (frameStartFound p s) := by
  refine Moves.ite (fun _ => Moves.ite (fun symbol => ?_) fun _ => Moves.ite (fun _ => ?_) fun _ => ?_) fun _ => Moves.refl _ s
  · exact Moves.changeTold symbol (by decide) _
  · exact (Still.modPath s p (fun x => { x with frameFound := true }) rfl rfl id).moves _
  · split
    · exact (Still.framePhase s p _).moves _
    · exact Moves.refl _ s

theorem Moves.takeUnsupported (s : State) (p : PathId) (d : SigRecord) (on : (s.path p).state ≠ .off) :
    Moves none s (s.takeUnsupported p d) :=
  have held := Still.holdRecord s p d
  (held.moves _).trans (Moves.takeFault _ p _ _ (by rw [held.pathState p]; exact on))

theorem Moves.takeInFrame (s : State) (p : PathId) (d : SigRecord) (frame : (s.path p).state = .frame) :
    Moves none s (s.takeInFrame p d) := by
  have departs : Departs p s (s.holdRecord p d) :=
    (Departs.free (by rw [frame]; decide) (by rw [frame]; rfl)).still (Still.holdRecord s p d)
  have on : (s.path p).state ≠ .off := by rw [frame]; decide
  exact Moves.ite (fun _ => departs.fill on _ _) fun _ => departs.queue on _ _

theorem Moves.takeInPageWait (s : State) (p : PathId) (d : SigRecord) (pageWait : (s.path p).state = .pageWait) :
    Moves none s (s.takeInPageWait p d) := by
  have held := Still.holdRecord s p d
  have on : (s.path p).state ≠ .off := by rw [pageWait]; decide
  have stays : ((s.holdRecord p d).path p).state = .pageWait := (held.pathState p).trans pageWait
  have departs : Departs p s ((s.holdRecord p d).withdraw p) := held.departs (Departs.withdraw (by rw [stays]; rfl))
  refine Moves.ite (fun _ => held.moves _) fun _ => Moves.ite (fun _ => departs.fill on _ _) fun _ before => ?_
  have accord := held.accord before
  obtain ⟨_, _, kept⟩ := withdraw_accord accord p (accord.pages p (.inr (by rw [stays]; rfl)))
  have rejoin : Moves (some (.path p)) s (((s.holdRecord p d).withdraw p).joinQueue p (pageNeed d)) :=
    departs.movesTo (UnitsStill.modStore _ _) (fun left => left.rejoin _ (kept.trans stays)) fun _ _ => rfl
  exact rejoin.stayOn on (fun off => absurd ((kept.trans stays).symm.trans off) (by decide)) before

/-- A resize: the pages of a holding path change, and FILL or the queue takes it (R103, R104). -/
theorem Moves.resize (s : State) (p : PathId) (n : Nat) (holding : (s.path p).state.holding = true) : Moves none s (s.resize p n) := by
  have on : (s.path p).state ≠ .off := fun off => absurd holding (by rw [off]; decide)
  have busy : (s.path p).state ≠ .pageWait := fun waits => absurd holding (by rw [waits]; decide)
  have dropped := Still.dropStaging s p
  have refill {t : State} (moved : Moves none s t) (state : (t.path p).state = (s.path p).state) :
      Moves none s (t.movePath p .fill .resize) :=
    moved.trans (Moves.changeTold state ⟨busy, by decide, .inl rfl, on, by decide⟩ _)
  refine Moves.ite (fun _ => refill (dropped.moves _) (dropped.pathState p)) fun _ => Moves.ite (fun _ => ?_) fun _ =>
    Moves.ite (fun _ => ?_) fun _ => ?_
  · exact (refill ((dropped.moves _).trans (Moves.releasePages _ p n))
      ((releasePages_state _ p n p).trans (dropped.pathState p))).trans (Moves.examine _)
  · refine refill ((dropped.moves _).trans fun before => ?_) ?_
    · have state (q : PathId) : (((s.dropStaging p).grant p (n - (s.path p).pages.length)).path q).state =
          ((s.dropStaging p).path q).state := by
        by_cases same : q = p
        · subst same
          simp
        · simp [Paths.get_set_ne _ _ same]
      have units := UnitsStill.grant (s.dropStaging p) p (n - (s.path p).pages.length)
      refine ⟨⟨before.nodup, fun q => ?_, fun q free => ?_⟩, units.unitEnable, fun u _ =>
        units.isOff (P := fun _ => True) (fun q _ => by rw [state q]) u fun _ _ => trivial⟩
      · rw [state q]
        exact before.waits q
      · rw [state q] at free
        have other : q ≠ p := by
          rintro rfl
          rw [dropped.pathState, holding] at free
          simp at free
        simpa [Paths.get_set_ne _ _ other] using before.pages q free
    · have granted : (((s.dropStaging p).grant p (n - (s.path p).pages.length)).path p).state = ((s.dropStaging p).path p).state := by
        simp
      exact granted.trans (dropped.pathState p)
  · have emptied := (dropped.moves none).trans (Moves.releasePages _ p 0)
    have state : (((s.dropStaging p).releasePages p 0).path p).state = (s.path p).state :=
      (releasePages_state _ p 0 p).trans (dropped.pathState p)
    have departs : Departs p s ((s.dropStaging p).releasePages p 0) := by
      refine ⟨dropped.units.trans (UnitsStill.releasePages _ p 0), fun before => ?_, fun before q => ?_⟩
      · have accord := (emptied before).1
        exact accord.takeOut p (accord.not_waiting (state ▸ busy)) (by simp)
      · exact (emptied before).2.2 (.path q) nofun
    exact (departs.queue on n .resize).trans (Moves.examine _)

theorem Moves.takeWhileHolding (s : State) (p : PathId) (d : SigRecord) (holding : (s.path p).state.holding = true) :
    Moves none s (s.takeWhileHolding p d) :=
  have held := (Still.holdRecord s p d).trans (Still.restartWindow _ p)
  Moves.ite (fun _ => held.moves _) fun _ => (held.moves _).trans (Moves.resize _ p _ (by rw [held.pathState p]; exact holding))

/-- A path that compares records waits for pages or holds them (R21). -/
theorem Path.comparesRecords_state {x : Path} (compares : x.comparesRecords = true) : x.state = .pageWait ∨ x.state.holding = true := by
  simp only [Path.comparesRecords, Bool.and_eq_true, Bool.or_eq_true, beq_iff_eq] at compares
  rcases compares.2 with ((h | h) | h) | ⟨h, _⟩ <;> simp [h, PathState.holding]

theorem Moves.endChannel (s : State) (p : PathId) (r : ScanRecord) (scan : (s.path p).state = .scan) :
    Moves none s (s.endChannel p r) := by
  refine Moves.ite (fun _ => ?_) fun _ => (Still.searchChannel s p _).moves _
  have told := (Still.raise s (.path p) (.scanDone { r with done := r.done + 1, stopped := false })).trans
    (Still.modPath _ p (fun x => { x with scan := none }) rfl rfl id)
  exact (told.moves _).trans (Moves.changeTold ((told.pathState p).trans scan) (by decide) _)

theorem Moves.channelEmpty (s : State) (p : PathId) (r : ScanRecord) (scan : (s.path p).state = .scan) :
    Moves none s (s.channelEmpty p r) :=
  ((Still.removeChannel s _).moves _).trans (Moves.endChannel _ p r scan)

theorem Moves.channelFind (s : State) (p : PathId) (r : ScanRecord) (d : SigRecord) (scan : (s.path p).state = .scan) :
    Moves none s (s.channelFind p r d) :=
  ((Still.find s _).moves _).trans (Moves.endChannel _ p _ scan)

theorem Moves.recordDecoded (p : PathId) (d : SigRecord) (s : State) : Moves none s (recordDecoded p d s) := by
  refine Moves.ite (fun _ => Moves.ite (fun frame => ?_) fun _ => Moves.ite (fun compares => ?_) fun _ => ?_) fun _ => Moves.refl _ s
  · exact Moves.ite (fun _ => Moves.takeInFrame s p d frame) fun _ => Moves.takeUnsupported s p d (by rw [frame]; decide)
  · have state := Path.comparesRecords_state compares
    have on : (s.path p).state ≠ .off := fun off => by simp [off, PathState.holding, -State.path_eq] at state
    refine Moves.ite (fun _ => Moves.ite (fun _ => Moves.ite (fun waits => ?_) fun busy => ?_) fun _ => ?_) fun _ => Moves.refl _ s
    · exact Moves.takeInPageWait s p d waits
    · exact Moves.takeWhileHolding s p d (state.resolve_left busy)
    · exact Moves.takeUnsupported s p d on
  · split
    · rename_i scans
      exact Moves.channelFind s p _ d (Path.scanIn_state scans)
    · exact Moves.refl _ s

theorem Moves.fillCompleted (p : PathId) (s : State) : Moves none s (fillCompleted p s) :=
  Moves.ite (fun ready => (Moves.change ready.1 (by decide)).trans
    (((Still.latchRate _ p).trans ((Still.endTune _ p _).trans (Still.raise _ _ _))).moves _)) fun _ => Moves.refl _ s

theorem Moves.timingLost (p : PathId) (s : State) : Moves none s (timingLost p s) := by
  refine Moves.ite (fun _ => Moves.ite (fun early => ?_) fun _ => Moves.ite (fun waits => ?_) fun _ => Moves.ite (fun fill => ?_) fun _ =>
    Moves.ite (fun locked => ?_) fun _ => Moves.ite (fun _ => ?_) fun _ => ?_) fun _ => Moves.refl _ s
  · rcases early with symbol | frame
    · exact Moves.changeTold symbol (by decide) _
    · exact Moves.changeTold frame (by decide) _
  · exact (Departs.withdraw (by rw [waits]; rfl)).moveOn (by decide) (by rw [waits]; decide) (by decide) _
  · exact Moves.releaseMove s p _ (by rw [fill]; rfl) (by decide) (by decide)
  · have dropped := Still.dropTiming s p
    exact (dropped.moves _).trans (Moves.changeTold ((dropped.pathState p).trans locked) (by decide) _)
  · exact (Still.dropTiming s p).moves _
  · split
    · rename_i scans
      exact Moves.channelEmpty s p _ (Path.scanIn_state scans)
    · rename_i scans
      exact Moves.channelEmpty s p _ (Path.scanIn_state scans)
    · exact Moves.refl _ s

theorem Moves.searchExpired (p : PathId) (s : State) : Moves none s (searchExpired p s) := by
  have stepped := Still.stepAttempts s p
  refine Moves.ite (fun _ => Moves.ite (fun search => Moves.ite (fun _ => ?_) fun _ => ?_) fun _ => ?_) fun _ => Moves.refl _ s
  · exact (stepped.trans (Still.modPath _ p (fun x => { x with searchTimer := some Config.searchMs }) rfl rfl id)).moves _
  · exact (stepped.moves _).trans ((Moves.changeTold ((stepped.pathState p).trans search) (by decide) _).trans
      ((Still.endTune _ p _).moves _))
  · split
    · rename_i scans
      exact Moves.channelEmpty s p _ (Path.scanIn_state scans)
    · exact Moves.refl _ s

/-- A timer that runs out in SYMBOL or FRAME sends the path to SEARCH (R32). -/
theorem Moves.startAgain {s : State} {p : PathId} {old : PathState} (state : (s.path p).state = old)
    (allowed : old ≠ .pageWait ∧ PathState.search ≠ .pageWait ∧ (PathState.search.holding = true ∨ old.holding = false) ∧ old ≠ .off ∧
      PathState.search ≠ .off) : Moves none s ((s.modPath p Path.stepAttempts).movePath p .search .timeout) :=
  have stepped := Still.stepAttempts s p
  (stepped.moves _).trans (Moves.changeTold ((stepped.pathState p).trans state) allowed _)

theorem Moves.symbolExpired (p : PathId) (s : State) : Moves none s (symbolExpired p s) := by
  refine Moves.ite (fun _ => Moves.ite (fun symbol => Moves.startAgain symbol (by decide)) fun _ => ?_) fun _ => Moves.refl _ s
  split
  · rename_i scans
    exact Moves.channelEmpty s p _ (Path.scanIn_state scans)
  · exact Moves.refl _ s

theorem Moves.frameExpired (p : PathId) (s : State) : Moves none s (frameExpired p s) := by
  refine Moves.ite (fun _ => Moves.ite (fun frame => Moves.startAgain frame (by decide)) fun _ => ?_) fun _ => Moves.refl _ s
  split
  · rename_i scans
    exact Moves.channelEmpty s p _ (Path.scanIn_state scans)
  · exact Moves.refl _ s

theorem Moves.holdoverExpired (p : PathId) (s : State) : Moves none s (holdoverExpired p s) :=
  Moves.ite (fun ends => Moves.releaseMove s p _ (by rw [ends.1]; rfl) (by split <;> decide) (by split <;> decide)) fun _ =>
    Moves.refl _ s

theorem Path.hasTiming_on {x : Path} (timed : x.hasTiming = true) : x.state ≠ .off := by
  intro off
  simp [Path.hasTiming, off] at timed

theorem Moves.estimateTaken (p : PathId) (observed : List Observation) (s : State) : Moves none s (estimateTaken p observed s) := by
  have written := (Still.estimateWrites s p observed).trans (Still.reportEstimate _ p (s.path p).tracker)
  refine Moves.ite (fun timed => Moves.ite (fun _ => ?_) fun _ => written.moves _) fun _ => Moves.refl _ s
  exact (written.moves _).trans (Moves.takeFault _ p _ _ (by rw [written.pathState p]; exact Path.hasTiming_on timed.1))

theorem Moves.judge (s : State) (p : PathId) (r : Quality) : Moves none s (s.judge p r) := by
  refine Moves.ite (fun below => ?_) fun _ => Moves.ite (fun recovers => ?_) fun _ => Moves.refl _ s
  · have timed := Still.modPath s p (fun x => { x with holdTiming := true }) rfl rfl id
    exact (timed.moves _).trans (Moves.changeTold ((timed.pathState p).trans below.1) (by decide) _)
  · exact (Moves.change recovers.1 (by decide)).trans (((Still.latchRate _ p).trans (Still.raise _ _ _)).moves _)

theorem Moves.closeWindow (s : State) (p : PathId) (q : Half) : Moves none s (s.closeWindow p q) := by
  unfold State.closeWindow
  simp only
  split
  · exact Moves.refl _ s
  · exact Moves.ite (fun _ => (Still.modPath s p (fun x => { x with window := some _ }) rfl rfl id).moves _) fun _ =>
      ((Still.modPath s p (fun x => { x with window := some (freshWindow x.config), quality := _ }) rfl rfl id).moves _).trans
        (Moves.judge _ p _)

theorem Moves.closeBursts (s : State) (p : PathId) : Moves none s (s.closeBursts p) := by
  have closed := Still.closeMarks s p
  refine Moves.ite (fun stalls => ?_) fun _ => closed.moves _
  refine (closed.moves _).trans (Moves.takeFault _ p _ _ ?_)
  rw [closed.pathState p]
  intro off
  have holding := stalls.2.2
  rw [off] at holding
  exact absurd holding (by decide)

theorem Moves.symbolCloses (p : PathId) (q : Half) (s : State) : Moves none s (symbolCloses p q s) :=
  Moves.ite (fun _ => Moves.ite (fun _ => (Moves.closeWindow s p q).trans ((Moves.closeBursts _ p).trans
    ((Still.blankIfImpulse _ p).moves _))) fun _ => Moves.ite (fun _ => Moves.closeBursts s p) fun _ => Moves.refl _ s) fun _ =>
      Moves.refl _ s

/-! ### What the units answer, but for SET_UNITS -/

theorem Moves.startTune (s : State) (p : PathId) (input : InputId) (band : Band) (channel : Nat) (offset : Int) (sender : TagPort)
    (on : (s.path p).state ≠ .off) : Moves none s (s.startTune p input band channel offset sender) :=
  (((Still.endTune s p _).departs (Departs.giveUpStore _ p)).still
    (Still.modPath _ p (fun x => { x with tune := some (newTune x input band channel offset sender), quality := .none }) rfl rfl id)).moveOn
      (by decide) on (by decide) _

theorem Moves.answerTune (t : Taken) (s : State) : Moves none s (answerTune t s).state := by
  unfold Machine.answerTune
  split
  · rename_i p _ _ _ _ _ _ _
    split
    · split
      · unfold tuneChecked
        split
        · exact Moves.refl _ s
        · rename_i takes
          split_ifs
          · exact Moves.refl _ s
          · exact Moves.refl _ s
          · exact Moves.startTune s p _ _ _ _ _ fun off => by simp [off, tuneRefusal, -State.path_eq] at takes
      · exact Moves.refl _ s
    · exact Moves.refl _ s
  · exact Moves.refl _ s

theorem Moves.stopPath (s : State) (p : PathId) (on : (s.path p).state ≠ .off) : Moves none s (s.stopPath p) :=
  (Departs.abandon s p).moveOn (by decide) on (by decide) _

theorem Moves.answerStop (t : Taken) (s : State) : Moves none s (answerStop t s).state := by
  unfold Machine.answerStop
  split
  · rename_i p _
    split
    · unfold stopByState
      split
      case h_1 | h_2 | h_11 | h_12 => exact Moves.refl _ s
      all_goals
        rename_i state
        exact Moves.stopPath s p (by rw [state]; decide)
    · exact Moves.refl _ s
  all_goals exact Moves.refl _ s

theorem Still.setScan (s : State) (p : PathId) (r : ScanRecord) : Still s (s.modPath p (fun x => { x with scan := some r })) :=
  Still.modPath s p _ rfl rfl id

theorem Moves.startScan (s : State) (p : PathId) (input : InputId) (band : Band) (first last : Nat) (sender : TagPort)
    (idle : (s.path p).state = .idle) : Moves none s (s.startScan p input band first last sender) := by
  refine ((Still.setScan s p _).moves _).trans (Moves.trans (Moves.changeTold (old := .idle) ?_ (by decide) _)
    ((Still.searchChannel _ p _).moves _))
  rw [(Still.setScan s p _).pathState p, idle]

theorem scanRefusal_none {st : PathState} (takes : scanRefusal st = none) : st = .idle := by
  cases st <;> first | rfl | cases takes

theorem Moves.answerScan (t : Taken) (s : State) : Moves none s (answerScan t s).state := by
  unfold Machine.answerScan
  split
  · rename_i p _ _ _ _ _ _
    split
    · split
      · unfold scanChecked
        split
        · exact Moves.refl _ s
        · rename_i takes
          split_ifs
          · exact Moves.refl _ s
          · exact Moves.refl _ s
          · exact Moves.startScan s p _ _ _ _ _ (scanRefusal_none takes)
      · exact Moves.refl _ s
    · exact Moves.refl _ s
  · exact Moves.refl _ s

theorem Moves.answerAckFault (t : Taken) (s : State) : Moves none s (answerAckFault t s).state := by
  unfold Machine.answerAckFault
  split
  · rename_i p _
    have cleared := Still.clearHold s p
    unfold ackByState
    split_ifs with _ fault
    · exact Moves.refl _ s
    · exact (cleared.moves _).trans (Moves.changeTold ((cleared.pathState p).trans fault) (by decide) _)
    · exact cleared.moves _
    · exact Moves.refl _ s
  all_goals exact Moves.refl _ s

theorem Moves.loseInput (s : State) (reason : Reason) (p : PathId) (on : (s.path p).state ≠ .off) :
    Moves none s (s.loseInput reason p) := (Departs.abandon s p).moveOn (by decide) on (by decide) _

/-- The members of an attached-path set go to IDLE one after another; none is OFF, and none turns OFF before its turn. -/
theorem Moves.loseMembers (reason : Reason) (l : List PathId) : ∀ s : State, (∀ p ∈ l, (s.path p).state ≠ .off) →
    Moves none s (l.foldl (fun s p => s.loseInput reason p) s) := by
  induction l with
  | nil => exact fun s _ => Moves.refl _ s
  | cons p l ih =>
    intro s on before
    have first := Moves.loseInput s reason p (on p List.mem_cons_self)
    refine first.trans (ih _ fun q mem => ?_) before
    have same := (first before).2.2 (.path q) nofun
    exact fun off => on q (List.mem_cons_of_mem p mem) (same.mp off)

theorem attached_on {s : State} {i : InputId} {p : PathId} (mem : p ∈ s.attached i) : (s.path p).state ≠ .off := by
  intro off
  simp [State.attached, Path.attachedTo, off, PathState.attached, -State.path_eq] at mem

theorem Moves.releaseMembers (s : State) (i : InputId) (reason : Reason) : Moves none s (s.releaseMembers i reason) :=
  Moves.loseMembers reason (s.attached i) s fun _ => attached_on

theorem Moves.resetInput (s : State) (i : InputId) : Moves (some (.input i)) s (s.resetInput i) :=
  ((Moves.releaseMembers s i _).trans ((((Still.mastOff _ i).trans (Still.enableAll _ _)).trans (Still.setLevel _ i _ _)).moves _)).but _
    |>.trans (Moves.modInput _ i _)

theorem Moves.resetPath (s : State) (p : PathId) : Moves (some (.path p)) s (s.resetPath p) :=
  (((Departs.abandon s p).still ((Still.enableAll _ _).trans (Still.wiped _ p))).enter (by decide)).trans ((Still.raise _ _ _).moves _)

theorem Moves.resetOutput (s : State) (o : OutputId) : Moves (some (.output o)) s (s.resetOutput o) :=
  (Moves.modOutput s o _).trans ((Still.enableAll _ _).moves _)

theorem Moves.beginOutput (s : State) (o : OutputId) (rate : Option Word) : Moves (some (.output o)) s (s.beginOutput o rate) :=
  Moves.ite (fun _ => (Moves.modOutput s o _).trans ((Still.beginFirstSlot _ o).moves _)) fun _ => Moves.modOutput s o _

theorem Moves.rebind (s : State) (o : OutputId) (bound : Option PathId) : Moves (some (.output o)) s (s.rebind o bound) :=
  (Moves.modOutput s o _).trans (Moves.beginOutput _ o _)

/-- An output that begins is SILENT or RUNNING (R120, R121). -/
theorem beginOutput_on (s : State) (o : OutputId) (rate : Option Word) : ¬(s.beginOutput o rate).isOff (.output o) := by
  have begun : ¬(s.modOutput o (fun x => x.begin rate)).isOff (.output o) := by
    cases rate <;> simp [State.isOff, Output.begin]
  unfold State.beginOutput
  dsimp only
  split
  · exact fun off => begun (((Still.beginFirstSlot _ o).outputs o).mp off)
  · exact begun

theorem resetUnit_on (t : Taken) (s : State) : ¬(answerResetUnit t s).state.isOff t.unit := by
  unfold answerResetUnit
  split
  · rename_i unit
    rw [unit]
    simp [done, State.resetInput, State.isOff, Input.restarted]
  · rename_i unit
    rw [unit]
    simp [done, State.resetPath, State.isOff]
  · rename_i unit
    rw [unit]
    simp [done, State.resetOutput, State.isOff, State.setEnables]
  · rename_i unit
    rw [unit]
    exact id
  · rename_i unit
    rw [unit]
    exact id

/-- Every verb but SET_UNITS leaves every unit but its own in or out of OFF as it was. -/
theorem Moves.answer {v : Verb} (other : v ≠ .setUnits) (t : Taken) (s : State) :
    Moves (some t.unit) s (answer v t s).state := by
  cases v with
  | setUnits => exact absurd rfl other
  | getStatus => exact Moves.refl _ s
  | setConfig => exact (Still.answerSetConfig t s).moves _
  | getConfig => exact Moves.refl _ s
  | tune => exact (Moves.answerTune t s).but _
  | stop => exact (Moves.answerStop t s).but _
  | scan => exact (Moves.answerScan t s).but _
  | ackFault => exact (Moves.answerAckFault t s).but _
  | readTable => exact (answerReadTable_state t s).symm ▸ Moves.refl _ s
  | readCounters => exact (answerReadCounters_state t s).symm ▸ Moves.refl _ s
  | clearCounters => exact (Still.answerClearCounters t s).moves _
  | maskNotices => exact (Still.answerMaskNotices t s).moves _
  | bind =>
    change Moves (some t.unit) s (answerBind t s).state
    unfold answerBind
    split
    · rename_i unit _
      rw [unit]
      split
      · exact Moves.ite (fun _ => Moves.refl _ s) fun _ => Moves.rebind s _ _
      · exact Moves.refl _ s
    · exact Moves.refl _ s
  | setGrants => exact (Still.answerSetGrants t s).moves _
  | setReference => exact (Still.answerSetReference t s).moves _
  | setLink => exact (Still.answerSetLink t s).moves _
  | clearScan => exact (Still.clearScan s).moves _
  | resetUnit =>
    change Moves (some t.unit) s (answerResetUnit t s).state
    unfold answerResetUnit
    split
    · rename_i unit
      exact unit ▸ Moves.resetInput s _
    · rename_i unit
      exact unit ▸ Moves.resetPath s _
    · rename_i unit
      exact unit ▸ Moves.resetOutput s _
    · exact Moves.refl _ s
    · exact Moves.refl _ s
  | resetDevice => exact (Still.answerResetDevice t s).moves _

/-- A unit that is ON stays ON under every verb but SET_UNITS. -/
theorem Moves.answerOn {v : Verb} (other : v ≠ .setUnits) (t : Taken) (s : State) (on : v = .getStatus ∨ ¬s.isOff t.unit) :
    Moves none s (Machine.answer v t s).state := by
  cases v with
  | setUnits => exact absurd rfl other
  | getStatus => exact Moves.refl _ s
  | setConfig => exact (Still.answerSetConfig t s).moves _
  | getConfig => exact Moves.refl _ s
  | tune => exact Moves.answerTune t s
  | stop => exact Moves.answerStop t s
  | scan => exact Moves.answerScan t s
  | ackFault => exact Moves.answerAckFault t s
  | readTable => exact (answerReadTable_state t s).symm ▸ Moves.refl _ s
  | readCounters => exact (answerReadCounters_state t s).symm ▸ Moves.refl _ s
  | clearCounters => exact (Still.answerClearCounters t s).moves _
  | maskNotices => exact (Still.answerMaskNotices t s).moves _
  | bind =>
    have on := on.resolve_left nofun
    refine (Moves.answer other t s).settle fun _ => ?_
    change (answerBind t s).state.isOff t.unit ↔ s.isOff t.unit
    unfold answerBind
    split
    · rename_i o _ unit _
      split
      · refine iff_of_false ?_ on
        rw [unit] at on ⊢
        simp only [done]
        split
        · exact on
        · exact beginOutput_on _ o _
      · exact .rfl
    · exact .rfl
  | setGrants => exact (Still.answerSetGrants t s).moves _
  | setReference => exact (Still.answerSetReference t s).moves _
  | setLink => exact (Still.answerSetLink t s).moves _
  | clearScan => exact (Still.clearScan s).moves _
  | resetUnit =>
    have on := on.resolve_left nofun
    exact (Moves.answer other t s).settle fun _ => iff_of_false (resetUnit_on t s) on
  | resetDevice => exact (Still.answerResetDevice t s).moves _

/-! ### SET_UNITS (R182) -/

/-- In accord, with this unit-enable set and exactly these units OFF. -/
structure OffAre (enable : Half) (off : UnitId → Prop) (s : State) : Prop where
  accord : Accord none s
  enable : s.device.unitEnable = enable
  off : ∀ u, s.isOff u ↔ off u

theorem OffAre.turnOff {e : Half} {off : UnitId → Prop} {s t : State} {u : UnitId} (h : OffAre e off s) (moves : Moves (some u) s t)
    (now : t.isOff u) : OffAre e (fun v => off v ∨ v = u) t := by
  obtain ⟨accord, enable, others⟩ := moves h.accord
  refine ⟨accord, enable.trans h.enable, fun v => ?_⟩
  by_cases same : v = u
  · subst same
    simpa using now
  · rw [others v (fun eq => same (Option.some.inj eq)), h.off v]
    simp [same]

theorem OffAre.turnOn {e : Half} {off : UnitId → Prop} {s t : State} {u : UnitId} (h : OffAre e off s) (moves : Moves (some u) s t)
    (now : ¬t.isOff u) : OffAre e (fun v => off v ∧ v ≠ u) t := by
  obtain ⟨accord, enable, others⟩ := moves h.accord
  refine ⟨accord, enable.trans h.enable, fun v => ?_⟩
  by_cases same : v = u
  · subst same
    simpa using now
  · rw [others v (fun eq => same (Option.some.inj eq)), h.off v]
    simp [same]

theorem OffAre.congr {e : Half} {off off' : UnitId → Prop} {s : State} (h : OffAre e off s) (same : ∀ u, off u ↔ off' u) :
    OffAre e off' s := ⟨h.accord, h.enable, fun u => (h.off u).trans (same u)⟩

/-- Units turned OFF one after another. -/
theorem OffAre.foldl_off {ι : Type} {f : State → ι → State} {unit : ι → UnitId} (moves : ∀ s a, Moves (some (unit a)) s (f s a))
    (now : ∀ s a, (f s a).isOff (unit a)) (l : List ι) {e : Half} : ∀ {off : UnitId → Prop} {s : State},
      OffAre e off s → OffAre e (fun v => off v ∨ v ∈ l.map unit) (l.foldl f s) := by
  induction l with
  | nil => exact fun h => h.congr fun u => by simp
  | cons a l ih => exact fun h => (ih (h.turnOff (moves _ a) (now _ a))).congr fun u => by simp [or_assoc]

/-- Units turned ON one after another. -/
theorem OffAre.foldl_on {ι : Type} {f : State → ι → State} {unit : ι → UnitId} (moves : ∀ s a, Moves (some (unit a)) s (f s a))
    (now : ∀ s a, ¬(f s a).isOff (unit a)) (l : List ι) {e : Half} : ∀ {off : UnitId → Prop} {s : State},
      OffAre e off s → OffAre e (fun v => off v ∧ v ∉ l.map unit) (l.foldl f s) := by
  induction l with
  | nil => exact fun h => h.congr fun u => by simp
  | cons a l ih => exact fun h => (ih (h.turnOn (moves _ a) (now _ a))).congr fun u => by simp [and_assoc]

theorem Moves.disableOutput (s : State) (o : OutputId) : Moves (some (.output o)) s (s.disableOutput o) :=
  Moves.ite (fun _ => Moves.refl _ s) fun _ => Moves.modOutput s o _

theorem disableOutput_off (s : State) (o : OutputId) : (s.disableOutput o).isOff (.output o) := by
  unfold State.disableOutput
  split
  · assumption
  · simp [State.isOff]

theorem Moves.disablePath (s : State) (p : PathId) : Moves (some (.path p)) s (s.disablePath p) :=
  Moves.ite (fun _ => Moves.refl _ s) fun _ =>
    ((Departs.abandon s p).enter (by decide)).trans ((Still.raise _ _ _).moves _)

theorem disablePath_off (s : State) (p : PathId) : (s.disablePath p).isOff (.path p) := by
  unfold State.disablePath
  split
  · assumption
  · simp [State.isOff]

theorem Moves.disableInput (s : State) (i : InputId) : Moves (some (.input i)) s (s.disableInput i) :=
  Moves.ite (fun _ => Moves.refl _ s) fun _ =>
    (((Moves.releaseMembers s i _).trans (((Still.mastOff _ i).trans (Still.setLevel _ i _ _)).moves _)).but _).trans
      (Moves.modInput _ i _)

theorem disableInput_off (s : State) (i : InputId) : (s.disableInput i).isOff (.input i) := by
  unfold State.disableInput
  split
  · assumption
  · simp [State.isOff, Input.turnedOff]

theorem Moves.enableInput (s : State) (i : InputId) : Moves (some (.input i)) s (s.enableInput i) :=
  Moves.ite (fun _ => Moves.modInput s i _) fun _ => Moves.refl _ s

theorem enableInput_on (s : State) (i : InputId) : ¬(s.enableInput i).isOff (.input i) := by
  unfold State.enableInput
  split
  · simp [State.isOff]
  · assumption

theorem Moves.enablePath (s : State) (p : PathId) : Moves (some (.path p)) s (s.enablePath p) :=
  Moves.ite (fun off => (Moves.enterPath s p (by rw [off]; decide) (by split <;> decide) (.inr (by rw [off]; rfl))).trans
    ((Still.raise _ _ _).moves _)) fun _ => Moves.refl _ s

theorem enablePath_on (s : State) (p : PathId) : ¬(s.enablePath p).isOff (.path p) := by
  unfold State.enablePath
  split
  · simp only [State.isOff, State.path_eq, State.movePath_paths, Paths.get_set, Path.enter_state]
    split <;> decide
  · assumption

theorem Moves.enableOutput (s : State) (o : OutputId) : Moves (some (.output o)) s (s.enableOutput o) :=
  Moves.ite (fun _ => Moves.beginOutput s o _) fun _ => Moves.refl _ s

theorem enableOutput_on (s : State) (o : OutputId) : ¬(s.enableOutput o).isOff (.output o) := by
  unfold State.enableOutput
  split
  · exact beginOutput_on s o _
  · assumption

/-- Which units SET_UNITS can turn OFF. -/
def UnitId.switched : UnitId → Bool
  | .device => false
  | .store => false
  | .input _ => true
  | .path _ => true
  | .output _ => true

theorem not_isOff_of_fixed (s : State) {u : UnitId} (fixed : u.switched = false) : ¬s.isOff u := by
  cases u <;> first | exact id | cases fixed

theorem OffAre.powerDown {e : Half} {off : UnitId → Prop} {s : State} (h : OffAre e off s) (set : Half) :
    OffAre e (fun u => off u ∨ (u.switched = true ∧ namesUnit set u = false)) (s.powerDown set) := by
  refine (((h.foldl_off Moves.disableOutput disableOutput_off _).foldl_off Moves.disablePath disablePath_off _).foldl_off
    Moves.disableInput disableInput_off _).congr fun u => ?_
  have outputs (o : OutputId) : o ∈ allOutputs := by cases o <;> decide
  have paths (p : PathId) : p ∈ allPaths := by cases p <;> decide
  have inputs (i : InputId) : i ∈ allInputs := by cases i <;> decide
  cases u <;> simp [UnitId.switched, outputs, paths, inputs]

theorem OffAre.powerUp {e : Half} {off : UnitId → Prop} {s : State} (h : OffAre e off s) (set : Half) :
    OffAre e (fun u => off u ∧ ¬(u.switched = true ∧ namesUnit set u = true)) (s.powerUp set) := by
  refine (((h.foldl_on Moves.enableInput enableInput_on _).foldl_on Moves.enablePath enablePath_on _).foldl_on
    Moves.enableOutput enableOutput_on _).congr fun u => ?_
  have outputs (o : OutputId) : o ∈ allOutputs := by cases o <;> decide
  have paths (p : PathId) : p ∈ allPaths := by cases p <;> decide
  have inputs (i : InputId) : i ∈ allInputs := by cases i <;> decide
  cases u <;> simp [UnitId.switched, outputs, paths, inputs]

end Sys2Proof.Machine
end

section
/-! Every command completes and keeps every invariant: O3 and O55 to O59; and the part after power-on has them: O60. -/

namespace Sys2Proof.Machine

open Sys2Proof

/-- The two invariants that look at the states of the units. -/
structure Kept (s t : State) : Prop where
  accord : Accord none s → Accord none t
  enables : Accord none s → EnablesMatchStates s → EnablesMatchStates t

theorem Kept.trans {s t u : State} (h : Kept s t) (k : Kept t u) : Kept s u :=
  ⟨k.accord ∘ h.accord, fun accord enables => k.enables (h.accord accord) (h.enables accord enables)⟩

theorem Moves.kept {s t : State} (h : Moves none s t) : Kept s t := by
  refine ⟨fun accord => (h accord).1, fun accord enables => ?_⟩
  obtain ⟨-, same, off⟩ := h accord
  rw [enablesMatchStates_iff] at enables ⊢
  intro u
  rw [unitEnabled_congr same u, off u nofun]
  exact enables u

theorem Still.kept {s t : State} (h : Still s t) : Kept s t := (h.moves none).kept

/-- The link block has no part in them. -/
theorem Kept.modLink (s : State) (f : Link → Link) : Kept s (s.modLink f) :=
  ⟨fun h => h.of_same rfl (fun _ => rfl) (fun _ => rfl), fun _ => id⟩

/-! ### SET_UNITS -/

theorem unitEnabled_switched (s : State) {u : UnitId} (switched : u.switched = true) :
    s.unitEnabled u = namesUnit s.device.unitEnable u := by
  cases u <;> first | rfl | cases switched

theorem unitEnabled_fixed (s : State) {u : UnitId} (fixed : u.switched = false) : s.unitEnabled u = true := by
  cases u <;> first | rfl | cases fixed

/-- After the disables and the enables the units that are OFF are those the new set leaves out, whatever they were before (R182). -/
theorem Kept.setUnits (s : State) (set : Half) : Kept s (s.setUnits set) := by
  have switched : ∀ accord : Accord none s, OffAre (set &&& unitBits) (fun u => (s.isOff u ∨ (u.switched = true ∧
      namesUnit (set &&& unitBits) u = false)) ∧ ¬(u.switched = true ∧ namesUnit (set &&& unitBits) u = true)) (s.setUnits set) := by
    intro accord
    have stored : OffAre (set &&& unitBits) s.isOff (s.modDevice (fun d => { d with unitEnable := set &&& unitBits })) :=
      ⟨accord.of_same rfl (fun _ => rfl) (fun _ => rfl), rfl, fun u => by cases u <;> exact .rfl⟩
    exact (stored.powerDown _).powerUp _
  refine ⟨fun accord => (switched accord).accord, fun accord _ => (enablesMatchStates_iff _).mpr fun u => ?_⟩
  obtain ⟨-, enable, off⟩ := switched accord
  cases fixed : u.switched with
  | false => exact iff_of_true (unitEnabled_fixed _ fixed) (not_isOff_of_fixed _ fixed)
  | true =>
    rw [unitEnabled_switched _ fixed, enable, off u]
    cases namesUnit (set &&& unitBits) u <;> simp [fixed]

/-! ### Requests -/

/-- A request that dispatch hands over comes to a unit that is enabled, or is a GET_STATUS (R165). -/
theorem dispatch_handsOver {s : State} {verb : Option Verb} {r : Request} {t : Taken} (hands : s.dispatch verb r = .inr t) :
    ∃ v, verb = some v ∧ (v = .getStatus ∨ s.unitEnabled t.unit = true) := by
  unfold State.dispatch at hands
  split at hands
  · cases hands
  · split at hands
    · cases hands
    · rename_i v
      split_ifs at hands with _ disabled
      cases hands
      refine ⟨v, rfl, ?_⟩
      by_cases status : v = .getStatus
      · exact .inl status
      · exact .inr (Bool.eq_false_or_eq_true _ |>.resolve_right fun off => disabled ⟨status, off⟩)

theorem Kept.answer (v : Verb) (t : Taken) (s : State) (on : v = .getStatus ∨ s.unitEnabled t.unit = true) :
    Kept s (answer v t s).state := by
  by_cases units : v = .setUnits
  · subst units
    change Kept s (answerSetUnits t s).state
    unfold answerSetUnits
    split
    · split
      · exact (Still.refl s).kept
      · exact Kept.setUnits s _
    · exact (Still.refl s).kept
  · refine ⟨fun accord => (Moves.answer units t s accord).1, fun accord enables => ?_⟩
    refine (Moves.answerOn units t s (on.imp_right fun enabled => ?_)).kept.enables accord enables
    exact ((enablesMatchStates_iff s).mp enables t.unit).mp enabled

theorem Kept.conclude (s : State) (r : Request) (t : Taken) (v : Verb) (on : v = .getStatus ∨ s.unitEnabled t.unit = true) :
    Kept s (s.conclude r t (Machine.answer v t)) := by
  have plain (st : Status) : Kept s ((Machine.answer v t s).state.recordTag t st) :=
    (Kept.answer v t s on).trans (Still.recordTag _ t st).kept
  unfold State.conclude
  simp only
  split_ifs
  · have occupied (f : TxFrame) : v = .getStatus ∨ (s.occupyCp f).unitEnabled t.unit = true :=
      on.imp_right ((unitEnabled_congr rfl t.unit).trans ·)
    exact (Still.occupyCp s _).kept.trans ((Kept.answer v t _ (occupied _)).trans
      ((Still.recordTag _ t _).trans (Still.useChoice _)).kept)
  · exact ((plain _).trans (Kept.modLink _ _)).trans (Still.useChoice _).kept
  · exact (plain _).trans (Kept.modLink _ _)
  · exact plain _

theorem Kept.takeRequest (s : State) (verb : Option Verb) (r : Request) : Kept s (s.takeRequest verb r) := by
  unfold State.takeRequest
  split
  · exact (Still.refl s).kept
  · split
    · exact Kept.modLink s _
    · rename_i hands
      obtain ⟨v, rfl, on⟩ := dispatch_handsOver hands
      exact Kept.conclude s r _ v on

theorem Kept.requestArrives (v : Verb) (r : Request) (s : State) : Kept s (requestArrives v r s) :=
  (Still.hunt s r.port).kept.trans (Kept.takeRequest _ _ r)

theorem Kept.byteArrived (p : Port) (b : Byte) (s : State) : Kept s (byteArrived p b s) := by
  unfold Machine.byteArrived
  split
  · exact (Still.ite (Still.setReceiver s p _) (Still.refl s)).kept
  · exact (Still.ite (Still.setReceiver s p _) (Still.hunt s p)).kept
  · dsimp only
    split_ifs
    · exact (Still.setReceiver s p _).kept
    · refine (Still.hunt s p).kept.trans ?_
      unfold State.takeFrame
      split
      · exact Kept.takeRequest _ _ _
      · exact (Still.refl _).kept
    · exact (Still.hunt s p).kept

/-! ### Resets of the part -/

/-- A part with every unit at its power-on values. -/
structure AllInitial (s : State) : Prop where
  wait : s.store.wait = []
  enable : s.device.unitEnable = 0
  paths : ∀ p, s.path p = Path.initial
  inputs : ∀ i, s.input i = Input.initial
  outputs : ∀ o, s.output o = Output.initial

theorem AllInitial.accord {s : State} (h : AllInitial s) : Accord none s := by
  refine ⟨?_, fun q => ?_, fun q _ => ?_⟩
  · simp [State.waiting, h.wait]
  · rw [h.paths q, State.waiting, h.wait]
    simp [Path.initial]
  · rw [h.paths q]
    rfl

theorem AllInitial.enables {s : State} (h : AllInitial s) : EnablesMatchStates s := by
  refine (enablesMatchStates_iff s).mpr fun u => ?_
  cases switched : u.switched with
  | false => exact iff_of_true (unitEnabled_fixed _ switched) (not_isOff_of_fixed _ switched)
  | true =>
    rw [unitEnabled_switched _ switched, h.enable]
    refine iff_of_false (by simp [namesUnit]) (not_not_intro ?_)
    cases u with
    | device | store => cases switched
    | input i => exact congrArg Input.state (h.inputs i)
    | path p => exact congrArg Path.state (h.paths p)
    | output o => exact congrArg Output.state (h.outputs o)

theorem AllInitial.kept {s t : State} (h : AllInitial t) : Kept s t := ⟨fun _ => h.accord, fun _ _ => h.enables⟩

theorem Inputs.get_initial (i : InputId) : Inputs.get { a := .initial, b := .initial } i = Input.initial := by cases i <;> rfl

theorem Outputs.get_initial (o : OutputId) :
    Outputs.get { o0 := .initial, o1 := .initial, o2 := .initial, o3 := .initial } o = Output.initial := by
  cases o <;> rfl

theorem Kept.resetPinReleased (fitHigh refPresent : Bool) (s : State) : Kept s (resetPinReleased fitHigh refPresent s) := by
  unfold Machine.resetPinReleased
  split
  · exact AllInitial.kept ⟨rfl, rfl, Paths.get_initial, Inputs.get_initial, Outputs.get_initial⟩
  · exact (Still.refl s).kept

theorem Kept.deviceResets (s : State) : Kept s (deviceResets s) := by
  unfold Machine.deviceResets
  split
  · exact AllInitial.kept ⟨rfl, rfl, Paths.get_initial, Inputs.get_initial, Outputs.get_initial⟩
  · exact (Still.refl s).kept

/-! ### Every command and every step -/

/-- All that a command keeps. -/
structure Keeps (s t : State) : Prop where
  sound : Sound s t
  kept : Kept s t

theorem Still.keeps {s t : State} (h : Still s t) : Keeps s t := ⟨h.sound, h.kept⟩

theorem Keeps.trans {s t u : State} (h : Keeps s t) (k : Keeps t u) : Keeps s u := ⟨h.sound.trans k.sound, h.kept.trans k.kept⟩

theorem live_keeps {s : State} {f : State → State} (h : Keeps s (f s)) : ∃ t, live s f = .next t ∧ Keeps s t := by
  refine ⟨_, rfl, ?_⟩
  split
  · exact (Still.refl s).keeps
  · exact h

theorem live_still {s : State} {f : State → State} (h : Still s (f s)) : ∃ t, live s f = .next t ∧ Keeps s t := live_keeps h.keeps

theorem live_moves {s : State} {f : State → State} (h : Lawful s (f s)) (k : Moves none s (f s)) :
    ∃ t, live s f = .next t ∧ Keeps s t := live_keeps ⟨h.sound, k.kept⟩

theorem live_request (v : Verb) (r : Request) (s : State) : ∃ t, live s (requestArrives v r) = .next t ∧ Keeps s t :=
  live_keeps ⟨Sound.requestArrives v r s, Kept.requestArrives v r s⟩

/-- A command of the RESET pin or of power leaves the part at its power-on values. -/
theorem keeps_of_initial {s t : State} (pending : t.pending = s.pending) (n : Nat) (store : t.store = Store.initial n)
    (list : t.device.scanList = []) (link : LinkWithin Config.replyCap Config.replyCap t.link) (initial : AllInitial t) : Keeps s t :=
  ⟨Sound.of_initial pending n store initial.paths list link, initial.kept⟩

theorem keeps_resetHeld (s : State) : Keeps s { s with resetHeld := true } :=
  ⟨⟨rfl, id, id, id, id⟩, fun h => h.of_same rfl (fun _ => rfl) (fun _ => rfl), fun _ => id⟩

/-- Every command completes, and keeps all of it. -/
theorem exec_keeps (c : Instr) (s : State) : ∃ t, exec c s = .next t ∧ Keeps s t := by
  cases c with
  | powerOn fitHigh refPresent =>
    exact ⟨_, rfl, keeps_of_initial rfl _ rfl rfl (Link.initial_within _ _)
      ⟨rfl, rfl, Paths.get_initial, Inputs.get_initial, Outputs.get_initial⟩⟩
  | resetPinAssert => exact ⟨_, rfl, keeps_resetHeld s⟩
  | resetPinRelease fitHigh refPresent =>
    exact ⟨_, rfl, Sound.resetPinReleased fitHigh refPresent s, Kept.resetPinReleased fitHigh refPresent s⟩
  | getStatus r => exact live_request .getStatus r s
  | setConfig r => exact live_request .setConfig r s
  | getConfig r => exact live_request .getConfig r s
  | tune r => exact live_request .tune r s
  | stop r => exact live_request .stop r s
  | scan r => exact live_request .scan r s
  | ackFault r => exact live_request .ackFault r s
  | readTable r => exact live_request .readTable r s
  | readCounters r => exact live_request .readCounters r s
  | clearCounters r => exact live_request .clearCounters r s
  | maskNotices r => exact live_request .maskNotices r s
  | bind r => exact live_request .bind r s
  | setUnits r => exact live_request .setUnits r s
  | setGrants r => exact live_request .setGrants r s
  | setReference r => exact live_request .setReference r s
  | setLink r => exact live_request .setLink r s
  | clearScan r => exact live_request .clearScan r s
  | resetUnit r => exact live_request .resetUnit r s
  | resetDevice r => exact live_request .resetDevice r s
  | deviceResetAction => exact live_keeps ⟨Sound.deviceResets s, Kept.deviceResets s⟩
  | byteArrives port byte => exact live_keeps ⟨Sound.byteArrived port byte s, Kept.byteArrived port byte s⟩
  | frameDiscarded port cause => exact live_still (Still.frameDiscarded port cause s)
  | gapTimerExpiry port => exact live_still (Still.gapExpired port s)
  | transmitFrameEnd port => exact live_still (Still.frameEnds port s)
  | linkSpeedChange => exact live_still (Still.speedChanges s)
  | externalReturns => exact live_still (Still.externalReturned s)
  | externalLost => exact live_still (Still.externalGone s)
  | switchTimerExpiry => exact live_still (Still.switchExpired s)
  | calibrationTimerExpiry i => exact live_still (Still.calibrated i s)
  | gainPeriodClose i occupancy count => exact live_still (Still.gainPeriodClosed i occupancy count s)
  | impulseEventBegins i magnitude => exact live_still (Still.impulseBegins i magnitude s)
  | impulseEventEnds i => exact live_still (Still.impulseEnds i s)
  | overcurrent i => exact live_still (Still.overcurrentTaken i s)
  | retryTimerExpiry i => exact live_still (Still.retryTaken i s)
  | tripFreeTimerExpiry i => exact live_still (Still.tripFreeTaken i s)
  | decodedPacket p packet status => exact live_still (Still.packetDelivered p packet status s)
  | slotStart o => exact live_still (Still.slotStarts o s)
  | burstFormed p dir => exact live_still (Still.burstTaken p dir s)
  | refreshDue => exact live_still (Still.refreshFallsDue s)
  | grantEnd => exact live_still (Still.grantEnds s)
  | packetInProgressFinishes o => exact live_still (Still.packetFinishes o s)
  | symbolTimingFound p mode fraction coarse => exact live_moves (Lawful.timingFound p _ coarse s) (Moves.timingFound p _ coarse s)
  | frameStartFound p => exact live_moves (Lawful.frameStartFound p s) (Moves.frameStartFound p s)
  | signallingRecordDecoded p record => exact live_moves (Lawful.recordDecoded p record s) (Moves.recordDecoded p record s)
  | fillComplete p => exact live_moves (Lawful.fillCompleted p s) (Moves.fillCompleted p s)
  | symbolTimingLost p => exact live_moves (Lawful.timingLost p s) (Moves.timingLost p s)
  | searchTimerExpiry p => exact live_moves (Lawful.searchExpired p s) (Moves.searchExpired p s)
  | symbolTimerExpiry p => exact live_moves (Lawful.symbolExpired p s) (Moves.symbolExpired p s)
  | frameTimerExpiry p => exact live_moves (Lawful.frameExpired p s) (Moves.frameExpired p s)
  | estimate p observed => exact live_moves (Lawful.estimateTaken p observed s) (Moves.estimateTaken p observed s)
  | symbolClose p errorFigure => exact live_moves (Lawful.symbolCloses p errorFigure s) (Moves.symbolCloses p errorFigure s)
  | holdoverTimerExpiry p => exact live_moves (Lawful.holdoverExpired p s) (Moves.holdoverExpired p s)

theorem keeps_of_exec {c : Instr} {s t : State} (runs : exec c s = .next t) : Keeps s t := by
  obtain ⟨u, runs', keeps⟩ := exec_keeps c s
  rw [runs] at runs'
  cases runs'
  exact keeps

/-- What a step keeps: the queue of commands apart, what a command does. -/
theorem step_keeps {s t : State} (steps : step s = .next t) : ∃ q, Keeps (s.withPending q) t := by
  unfold step at steps
  split at steps
  · cases steps
    exact ⟨s.pending, (Still.tick s).keeps⟩
  · exact ⟨_, keeps_of_exec steps⟩

/-- Settles O3: no command fails, and none writes the queue of commands. -/
theorem commandsCompleteAndKeepTheQueue : Obligations.CommandsCompleteAndKeepTheQueue := by
  intro c s
  obtain ⟨t, runs, keeps⟩ := exec_keeps c s
  exact ⟨t, runs, keeps.sound.pending⟩

/-- Settles O55: a grant and a release move pages between the free list and one path's list; nothing else moves any. -/
theorem stepKeepsPagesPartitioned : Obligations.StepKeepsPagesPartitioned := by
  intro s t partitioned steps
  obtain ⟨q, keeps⟩ := step_keeps steps
  exact keeps.sound.pages partitioned

/-- Settles O56: a path that leaves PAGE_WAIT, FILL, LOCKED or HOLDOVER gives up its place or its pages before it enters another state, and
one that the queue grants pages enters FILL with them. -/
theorem stepKeepsHoldingsMatchingStates : Obligations.StepKeepsHoldingsMatchingStates := by
  intro s t holdings steps
  obtain ⟨q, keeps⟩ := step_keeps steps
  exact (holdingsMatchStates_iff t).mpr (keeps.kept.accord ((holdingsMatchStates_iff (s.withPending q)).mp holdings))

/-- Settles O57: SET_UNITS leaves OFF exactly the units its set leaves out; no other command turns a unit that is named in the set OFF, nor one
that is not named ON. -/
theorem stepKeepsEnablesMatchingStates : Obligations.StepKeepsEnablesMatchingStates := by
  intro s t holdings enables steps
  obtain ⟨q, keeps⟩ := step_keeps steps
  exact keeps.kept.enables ((holdingsMatchStates_iff (s.withPending q)).mp holdings) enables

/-- Settles O58: an offer merges, joins or is discarded; a reply joins a queue that dispatch found with room; every write of an enable set
keeps the ignored bits. -/
theorem stepKeepsTheLinkWellFormed : Obligations.StepKeepsTheLinkWellFormed := by
  intro s t queues sets steps
  obtain ⟨q, keeps⟩ := step_keeps steps
  exact (linkWithin_iff t).mp (keeps.sound.link ((linkWithin_iff (s.withPending q)).mpr ⟨queues, sets⟩))

/-- Settles O59: seeding and an estimate leave a merged table, every other write of a tracker clears it or keeps its table; a find and an
empty channel keep the list's order. -/
theorem stepKeepsTheTablesOrdered : Obligations.StepKeepsTheTablesOrdered := by
  intro s t tables list steps
  obtain ⟨q, keeps⟩ := step_keeps steps
  exact ⟨keeps.sound.echo tables, keeps.sound.scan list⟩

/-! ### After power-on -/

theorem powerOn_allInitial (fitHigh refPresent : Bool) : AllInitial (State.powerOn fitHigh refPresent) :=
  ⟨rfl, rfl, Paths.get_initial, Inputs.get_initial, Outputs.get_initial⟩

/-- Settles O60: every unit is OFF, every page free, every queue and table empty. -/
theorem powerOnHasTheInvariants : Obligations.PowerOnHasTheInvariants := by
  intro f r
  have initial := powerOn_allInitial f r
  obtain ⟨queues, sets⟩ := (linkWithin_iff (State.powerOn f r)).mp (Link.initial_within _ _)
  refine ⟨Store.initial_partitioned _ _ rfl fun p => ?_, (holdingsMatchStates_iff _).mpr initial.accord, initial.enables, queues, sets,
    fun p => ?_, Nat.zero_le _, .nil⟩
  · rw [initial.paths p]
    rfl
  · rw [initial.paths p]
    exact EchoTableOrdered.nil

end Sys2Proof.Machine
end

section
/-! Steps, power-on and the resets of the part (R185): O1, O2, O4, O5 and O6. -/

namespace Sys2Proof.Machine

open Sys2Proof

/-- Settles O1: a step takes the front command off the queue and runs it on the rest. -/
theorem stepRunsFrontCommand : Obligations.StepRunsFrontCommand := fun _ _ _ => rfl

/-- Settles O2: with nothing waiting a step is the tick. -/
theorem emptyQueueTicks : Obligations.EmptyQueueTicks := by
  intro s empty
  simp only [step, empty, State.tick, State.modDevice]

/-! ### The RESET pin (R185) -/

theorem live_held {s : State} (held : s.resetHeld = true) (f : State → State) : live s f = .next s := by simp [live, held]

/-- Held, the pin stops every command but POWER_ON and its own release. -/
theorem exec_of_held {c : Instr} {s : State} (held : s.resetHeld = true) (notPower : ∀ f r, c ≠ .powerOn f r)
    (notRelease : ∀ f r, c ≠ .resetPinRelease f r) : exec c s = .next s := by
  cases c with
  | powerOn f r => exact absurd rfl (notPower f r)
  | resetPinRelease f r => exact absurd rfl (notRelease f r)
  | resetPinAssert =>
    obtain ⟨⟩ := s
    cases held
    rfl
  | _ => exact live_held held _

theorem resetPinReleased_of_held {s : State} (fitHigh refPresent : Bool) (held : s.resetHeld = true) :
    resetPinReleased fitHigh refPresent s =
      { State.powerOn fitHigh refPresent with pending := s.pending, freeCount := s.freeCount } := if_pos held

/-- Settles O4: power-on, the pin asserted, released, and held. -/
theorem powerOnAndResetPin : Obligations.PowerOnAndResetPin :=
  ⟨fun _ _ _ => rfl, fun _ => rfl,
    fun f r s held => by rw [exec_resetPinRelease, resetPinReleased_of_held f r held],
    fun _ _ held notPower notRelease => exec_of_held held notPower notRelease⟩

/-! ### The values after power-on -/

theorem powerOn_counter (fitHigh refPresent : Bool) (c : CounterId) : (State.powerOn fitHigh refPresent).counter c = ⟨0, false⟩ := by
  obtain ⟨-, -, paths, inputs, outputs⟩ := powerOn_allInitial fitHigh refPresent
  cases c with
  | path p c =>
    rw [State.counter, paths p]
    cases c <;> rfl
  | clip i =>
    rw [State.counter, inputs i]
    rfl
  | impulse i =>
    rw [State.counter, inputs i]
    rfl
  | fill o =>
    rw [State.counter, outputs o]
    rfl
  | dropped o =>
    rw [State.counter, outputs o]
    rfl

/-- Settles O5: the tables of the chapters, unit by unit. -/
theorem valuesAfterPowerOn : Obligations.ValuesAfterPowerOn := by
  refine ⟨rfl, fun f r => ?_⟩
  obtain ⟨-, -, paths, inputs, outputs⟩ := powerOn_allInitial f r
  refine ⟨rfl, rfl, ⟨rfl, rfl, rfl, rfl, rfl, rfl, rfl, rfl⟩, fun i => ?_, fun p => ?_, fun o => ?_, powerOn_counter f r,
    ⟨rfl, rfl, rfl, rfl, rfl, rfl, rfl⟩, ⟨rfl, rfl, rfl, rfl, rfl, fun q => ?_, PerUnit.get_all _⟩, PerUnit.get_all _⟩
  · rw [inputs i]
    exact ⟨rfl, rfl, rfl, rfl, rfl, rfl, rfl, rfl, rfl, rfl, rfl, rfl, rfl, rfl, rfl, rfl, rfl, rfl⟩
  · rw [paths p]
    exact ⟨rfl, rfl, rfl, rfl, rfl, rfl, rfl, rfl, rfl, rfl, rfl, rfl, rfl, rfl, rfl, rfl, rfl, rfl, rfl, rfl, rfl⟩
  · rw [outputs o]
    exact ⟨rfl, rfl, rfl, rfl, rfl, rfl⟩
  · cases q <;> exact ⟨rfl, rfl, rfl⟩

/-! ### RESET_DEVICE and the reset that follows it -/

theorem pendingTogether_self (s : State) (p : Port) : pendingTogether s s p = false := by
  unfold pendingTogether
  cases s.link.tx.cp <;> simp

theorem resetDevice_wanted {s : State} {r : Request} (hands : HandsOver s .resetDevice r .device) (wanted : replyWanted r = true) :
    exec (.resetDevice r) s = .next (((s.hunt r.port).tagged .device r).sendReply r.port
      { unit := r.unit, tag := r.tag, status := .ok, body := [], thenReset := true }) := by
  have answers : answer .resetDevice (takenOf r .device) (s.hunt r.port) =
      { status := .ok, body := [], state := s.hunt r.port, thenReset := true } := if_pos wanted
  have replies : repliesTo r .ok = true := by simp [repliesTo, wanted]
  change exec (requestCommand .resetDevice r) s = _
  rw [exec_requestCommand, live_running hands.1, requestArrives_handsOver hands]
  simp only [State.conclude, answers, replies, pendingTogether_self, if_true, Bool.false_eq_true, if_false]
  rfl

theorem resetDevice_unwanted {s : State} {r : Request} (hands : HandsOver s .resetDevice r .device) (unwanted : replyWanted r = false) :
    exec (.resetDevice r) s = .next (((s.hunt r.port).modLink (fun l => { l with resetDue := true })).tagged .device r) := by
  have answers : answer .resetDevice (takenOf r .device) (s.hunt r.port) =
      done [] ((s.hunt r.port).modLink (fun l => { l with resetDue := true })) :=
    if_neg (fun wanted => Bool.false_ne_true (unwanted.symm.trans wanted))
  have silent : repliesTo r .ok = false := by simp [repliesTo, unwanted, Status.needsWanting]
  change exec (requestCommand .resetDevice r) s = _
  rw [exec_requestCommand, live_running hands.1, requestArrives_handsOver hands]
  simp only [State.conclude, answers, done, silent, Bool.false_eq_true, if_false]
  rfl

/-- A frame that survives a reset has the bytes and the speed it was begun with (R178). -/
theorem Sending.withoutReset_bytes (x : Sending) :
    (x.withoutReset.frame.bytes, x.withoutReset.speed) = (x.frame.bytes, x.speed) := by
  obtain ⟨frame, speed⟩ := x
  cases frame <;> rfl

theorem deviceResets_of_due {s : State} (due : s.link.resetDue = true) : deviceResets s =
    { State.powerOn false s.device.extPresent with
      pending := s.pending
      store := .initial s.store.fitment
      link := s.link.deviceReset.forgetReset
      freeCount := s.freeCount } := if_pos due

/-- Settles O6: the request with and without its reply, then the reset once it is due. -/
theorem deviceResetTakesEffect : Obligations.DeviceResetTakesEffect := by
  refine ⟨fun s r hands => ⟨resetDevice_wanted hands, resetDevice_unwanted hands⟩, fun s released due => ?_⟩
  refine ⟨deviceResets s, by rw [exec_deviceResetAction, live_running released], ?_⟩
  rw [deviceResets_of_due due]
  refine ⟨rfl, rfl, rfl, rfl, rfl, rfl, rfl, rfl, rfl, rfl, rfl, rfl, rfl, rfl, fun q => ?_, rfl, rfl⟩
  cases q with
  | cp =>
    change (s.link.tx.cp.map Sending.withoutReset).map _ = s.link.tx.cp.map _
    simp only [Option.map_map, Function.comp_def, Sending.withoutReset_bytes]
  | sp =>
    change (s.link.tx.sp.map Sending.withoutReset).map _ = s.link.tx.sp.map _
    simp only [Option.map_map, Function.comp_def, Sending.withoutReset_bytes]

end Sys2Proof.Machine
end

section
/-! Receivers and dispatch (R161, R162, R165, R180): O7 to O10. -/

namespace Sys2Proof.Machine

open Sys2Proof

/-! ### One byte at a receiver (R161) -/

theorem exec_byteArrives (p : Port) (b : Byte) {s : State} (released : s.resetHeld = false) :
    exec (.byteArrives p b) s = .next (byteArrived p b s) := live_running released _

theorem byteArrived_hunt {p : Port} {s : State} (hunts : s.link.rx.get p = .hunt) (b : Byte) :
    byteArrived p b s = if b = markByte then s.setReceiver p .length else s := by
  simp only [byteArrived, hunts]

theorem byteArrived_length {p : Port} {s : State} (length : s.link.rx.get p = .length) (b : Byte) :
    byteArrived p b s = if 4 ≤ b.toNat ∧ b.toNat ≤ 250 then s.setReceiver p (.body b []) else s.setReceiver p .hunt := by
  simp only [byteArrived, length]
  rfl

theorem byteArrived_body {p : Port} {s : State} {len : Byte} {got : List Byte} (body : s.link.rx.get p = .body len got) (b : Byte) :
    byteArrived p b s =
      if got.length + 1 < len.toNat + 2 then s.setReceiver p (.body len (got ++ [b]))
      else if goodFrame len (got ++ [b]) then (s.hunt p).takeFrame p ((got ++ [b]).take len.toNat)
      else s.setReceiver p .hunt := by
  simp only [byteArrived, body, List.length_append, List.length_singleton]
  rfl

theorem goodFrame_iff (len : Byte) (bytes : List Byte) :
    goodFrame len bytes = true ↔ half (crc16 (len :: bytes.take len.toNat)) = bytes.drop len.toNat := by
  simp [goodFrame, checkedSpan, checkBytes]

theorem exec_gapTimerExpiry (p : Port) {s : State} (released : s.resetHeld = false) :
    exec (.gapTimerExpiry p) s = .next (gapExpired p s) := live_running released _

theorem exec_frameDiscarded (p : Port) (cause : DiscardCause) {s : State} (released : s.resetHeld = false)
    (arises : causeArises s p cause = true) : exec (.frameDiscarded p cause) s = .next (s.setReceiver p .hunt) := by
  have hunts : frameDiscarded p cause s = s.hunt p := if_pos arises
  exact (live_running released _).trans (congrArg _ hunts)

/-- Settles O7: the receiver's table, row by row. -/
theorem receiverFollowsItsTable : Obligations.ReceiverFollowsItsTable := by
  intro s p b released
  rw [exec_byteArrives p b released, exec_gapTimerExpiry p released]
  refine ⟨fun hunts other => ?_, fun hunts mark => ?_, fun length low high => ?_, fun length outside => ?_, fun len got body more => ?_,
    fun len got body last bad => ?_, fun inFrame => ?_, fun length => ?_, ?_, fun len got body => ?_, fun len got body full => ?_⟩
  · rw [byteArrived_hunt hunts, if_neg other]
  · rw [byteArrived_hunt hunts, if_pos mark]
  · rw [byteArrived_length length, if_pos ⟨low, high⟩]
  · rw [byteArrived_length length, if_neg (by omega)]
  · rw [byteArrived_body body, if_pos more]
  · rw [byteArrived_body body, if_neg (by omega), if_neg (by rwa [goodFrame_iff])]
  · have runs : (s.link.rx.get p).inFrame = true := by
      cases receiver : s.link.rx.get p <;> first | rfl | exact absurd receiver inFrame
    rw [gapExpired, if_pos runs]
    rfl
  · exact exec_frameDiscarded p _ released (by simp [causeArises, length])
  · exact exec_frameDiscarded p _ released rfl
  · exact exec_frameDiscarded p _ released (by simp [causeArises, body, Receiver.inBody])
  · exact exec_frameDiscarded p _ released (by simpa [causeArises, body, Receiver.inBody] using full)

/-! ### A whole frame, byte by byte (R161, R162) -/

@[simp] theorem Ports.set_set {α : Type} (t : Ports α) (p : Port) (x y : α) : (t.set p x).set p y = t.set p y := by cases p <;> rfl

theorem setReceiver_rx (s : State) (p : Port) (x : Receiver) : (s.setReceiver p x).link.rx.get p = x := Ports.get_set _ p x

theorem setReceiver_setReceiver (s : State) (p : Port) (x y : Receiver) : (s.setReceiver p x).setReceiver p y = s.setReceiver p y := by
  simp [State.setReceiver, State.modLink]

theorem hunt_eq_setReceiver (s : State) (p : Port) : s.hunt p = s.setReceiver p .hunt := rfl

theorem bytesArrive_cons (p : Port) (b : Byte) (bs : List Byte) {s : State} (released : s.resetHeld = false) :
    bytesArrive p (b :: bs) s = bytesArrive p bs (byteArrived p b s) := by
  simp only [bytesArrive, exec_byteArrives p b released]

/-- Bytes short of a frame's last are kept in the order they came. -/
theorem bytesArrive_body (p : Port) (len : Byte) (last : List Byte) : ∀ (bs got : List Byte) (s : State), s.resetHeld = false →
    got.length + bs.length < len.toNat + 2 → bytesArrive p (bs ++ last) (s.setReceiver p (.body len got)) =
      bytesArrive p last (s.setReceiver p (.body len (got ++ bs)))
  | [], got, s, _, _ => by simp
  | b :: bs, got, s, released, short => by
    rw [List.length_cons] at short
    rw [List.cons_append, bytesArrive_cons p b _ (by exact released), byteArrived_body (setReceiver_rx s p _), if_pos (by omega),
      setReceiver_setReceiver, bytesArrive_body p len last bs (got ++ [b]) s released (by simp; omega), List.append_assoc]
    rfl

/-- The whole of a good frame: the mark, LEN, the counted bytes and their check bring the counted bytes to dispatch. -/
theorem bytesArrive_frame {s : State} {p : Port} (released : s.resetHeld = false) (hunts : s.link.rx.get p = .hunt)
    (counted : List Byte) (low : 4 ≤ counted.length) (high : counted.length ≤ 250) :
    bytesArrive p (frameOf counted) s = .next ((s.hunt p).takeFrame p counted) := by
  generalize hlen : BitVec.ofNat 8 counted.length = len
  have length : len.toNat = counted.length := by
    rw [← hlen, BitVec.toNat_ofNat]
    omega
  obtain ⟨check₀, check₁, check⟩ : ∃ a b, half (crc16 (len :: counted)) = [a, b] := ⟨_, _, rfl⟩
  have frame : frameOf counted = markByte :: len :: ((counted ++ [check₀]) ++ [check₁]) := by
    simp only [frameOf, u8, hlen, List.singleton_append, check]
    simp
  rw [frame, bytesArrive_cons p _ _ released, byteArrived_hunt hunts, if_pos rfl, bytesArrive_cons p _ _ (by exact released),
    byteArrived_length (setReceiver_rx s p _), if_pos (by omega), setReceiver_setReceiver,
    bytesArrive_body p len _ _ [] s released (by simp; omega), List.nil_append, bytesArrive_cons p _ _ (by exact released),
    byteArrived_body (setReceiver_rx s p _), if_neg (by simp; omega)]
  have whole : counted ++ [check₀] ++ [check₁] = counted ++ [check₀, check₁] := by simp
  have good : goodFrame len (counted ++ [check₀] ++ [check₁]) = true := by
    rw [goodFrame_iff, whole, length, List.take_left, List.drop_left, check]
  rw [if_pos good, whole, length, List.take_left, hunt_eq_setReceiver, setReceiver_setReceiver]
  rfl

theorem verbOfCode_code (v : Verb) : verbOfCode v.code = some v := by cases v <;> rfl

/-- Settles O8: the counted bytes of a request's frame are its unit, tag, verb code, flags and tail. -/
theorem frameBytesAreTheCommand : Obligations.FrameBytesAreTheCommand := by
  intro s v r released hunts wf
  have short : r.tail.length ≤ 246 := by simpa [Request.wf] using wf
  rw [exec_requestCommand, live_running released, requestBytes,
    bytesArrive_frame released hunts _ (by simp) (by simp; omega)]
  simp only [requestArrives, State.takeFrame, List.cons_append, List.nil_append, verbOfCode_code]

/-! ### The checks of dispatch, in their order (R165) -/

theorem dispatch_unknownUnit {r : Request} (unknown : unitOf r.unit = none) (s : State) (verb : Option Verb) :
    s.dispatch verb r = .inl .unknownUnit := by
  simp only [State.dispatch, unknown]

section
variable {s : State} {r : Request} {u : UnitId} {v : Verb} (names : unitOf r.unit = some u)
include names

theorem dispatch_noVerb : s.dispatch none r = .inl .unknownVerb := by simp only [State.dispatch, names]

theorem dispatch_unknownVerb (untaken : v.takenBy u = false) : s.dispatch (some v) r = .inl .unknownVerb := by
  simp only [State.dispatch, names, untaken, if_true]

theorem dispatch_unitOff (takes : v.takenBy u = true) (notStatus : v ≠ .getStatus) (disabled : s.unitEnabled u = false) :
    s.dispatch (some v) r = .inl .unitOff := by
  simp [State.dispatch, names, takes, notStatus, disabled]

section
variable (takes : v.takenBy u = true) (enabled : v = .getStatus ∨ s.unitEnabled u = true)
include takes enabled

theorem dispatch_notGranted_of_enabled (fromService : r.port = .sp) (barred : (v.access u.kind).heldBy s.device.grants = false) :
    s.dispatch (some v) r = .inl .notGranted := by
  rcases enabled with status | enabled
  · simp [State.dispatch, names, status, fromService, status ▸ barred, status ▸ takes]
  · exact dispatch_notGranted names takes enabled fromService barred

variable (allowed : r.port = .cp ∨ (v.access u.kind).heldBy s.device.grants = true)
include allowed

/-- The first three checks passed, the rest decide. -/
theorem dispatch_of_allowed : s.dispatch (some v) r =
    if tooShortForCondition r ∨ v.allowsLength (bodyOf r).length = false then .inl .badLength
    else if r.tag = 0 then .inl .badValue
    else if badConditionForm v r then .inl .badValue
    else .inr (takenOf r u) := by
  have on : ¬(v ≠ .getStatus ∧ s.unitEnabled u = false) := by
    rintro ⟨notStatus, disabled⟩
    exact enabled.elim notStatus fun on => Bool.false_ne_true (disabled.symm.trans on)
  have granted : ¬(r.port = .sp ∧ (v.access u.kind).heldBy s.device.grants = false) := by
    rintro ⟨fromService, barred⟩
    exact allowed.elim (fun cp => by simp [cp] at fromService) fun held => Bool.false_ne_true (barred.symm.trans held)
  simp only [State.dispatch, names, takes, Bool.true_eq_false, if_false, if_neg on, if_neg granted]
  rfl

theorem dispatch_badLength (bad : tooShortForCondition r = true ∨ v.allowsLength (bodyOf r).length = false) :
    s.dispatch (some v) r = .inl .badLength := by
  rw [dispatch_of_allowed names takes enabled allowed, if_pos bad]

theorem dispatch_badValue (long : tooShortForCondition r = false) (fits : v.allowsLength (bodyOf r).length = true)
    (bad : r.tag = 0 ∨ badConditionForm v r = true) : s.dispatch (some v) r = .inl .badValue := by
  rw [dispatch_of_allowed names takes enabled allowed, if_neg (by simp [long, fits])]
  rcases bad with untagged | form
  · rw [if_pos untagged]
  · rw [if_pos form, ite_self]

end
end

/-! ### The tables dispatch reads (9.6, R165, R180) -/

theorem unitOf_table (b : Byte) : unitOf b = [none, some .device, some (.input .a), some (.input .b), some (.path .p0), some (.path .p1),
    some (.path .p2), some (.path .p3), some (.output .o0), some (.output .o1), some (.output .o2), some (.output .o3),
    some .store].getD b.toNat none := by
  unfold unitOf
  generalize b.toNat = n
  split <;> try rfl
  rename_i h₁ h₂ h₃ h₄ h₅ h₆ h₇ h₈ h₉ h₁₀ h₁₁ h₁₂
  match n with
  | 0 => rfl
  | n + 13 => simp
  | 1 | 2 | 3 | 4 | 5 | 6 | 7 | 8 | 9 | 10 | 11 | 12 => simp_all

theorem takenBy_iff (v : Verb) (u : UnitId) : v.takenBy u = true ↔ u.kind ∈ v.takers := List.contains_iff_mem

theorem kind_device (u : UnitId) : u.kind = .device ↔ u = .device := u.kind_eq_device_iff

/-- Which units take each verb (9.6). -/
theorem takers_table :
    (∀ u, Verb.takenBy .getStatus u = true) ∧
    (∀ v ∈ [Verb.setConfig, .getConfig, .readCounters, .clearCounters, .resetUnit], ∀ u : UnitId,
      v.takenBy u = true ↔ u.kind ∈ [.input, .path, .output]) ∧
    (∀ v ∈ [Verb.tune, .stop, .scan, .ackFault], ∀ u : UnitId, v.takenBy u = true ↔ u.kind = .path) ∧
    (∀ u : UnitId, Verb.takenBy .readTable u = true ↔ u.kind ∈ [.path, .store, .device]) ∧
    (∀ u : UnitId, Verb.takenBy .maskNotices u = true ↔ u ≠ .store) ∧
    (∀ u : UnitId, Verb.takenBy .bind u = true ↔ u.kind = .output) ∧
    (∀ v ∈ [Verb.setUnits, .setGrants, .setReference, .setLink, .clearScan, .resetDevice], ∀ u : UnitId,
      v.takenBy u = true ↔ u = .device) := by
  refine ⟨fun u => by cases u <;> rfl, ?_, ?_, fun u => takenBy_iff _ u, fun u => by cases u <;> simp [Verb.takenBy, Verb.takers, UnitId.kind],
    fun u => by simp [takenBy_iff, Verb.takers], ?_⟩
  all_goals simp only [List.forall_mem_cons, takenBy_iff, Verb.takers]
  · simp
  · simp
  · simp [kind_device]

/-- Which body lengths each verb allows (9.6). -/
theorem lengths_table :
    (∀ n, Verb.allowsLength .setConfig n = true ↔ 3 ≤ n ∧ n % 3 = 0) ∧
    (∀ v ∈ [Verb.getStatus, .getConfig, .stop, .ackFault, .clearScan, .resetUnit, .resetDevice], ∀ n, v.allowsLength n = true ↔ n = 0) ∧
    (∀ v ∈ [Verb.readCounters, .clearCounters, .bind, .setGrants, .setReference, .setLink], ∀ n, v.allowsLength n = true ↔ n = 1) ∧
    (∀ v ∈ [Verb.readTable, .setUnits], ∀ n, v.allowsLength n = true ↔ n = 2) ∧
    (∀ n, (Verb.allowsLength .maskNotices n = true ↔ n = 3) ∧ (Verb.allowsLength .scan n = true ↔ n = 4) ∧
      (Verb.allowsLength .tune n = true ↔ n = 5)) := by
  simp [Verb.allowsLength]

/-- Which verbs the service port may use: always, while a bit is set, or never (R180). -/
theorem access_table (g : Byte) : (∀ v ∈ [Verb.getStatus, .getConfig, .readTable], ∀ k, (v.access k).heldBy g = true) ∧
    (∀ v ∈ [Verb.setUnits, .setGrants, .setReference, .setLink, .maskNotices, .resetDevice], ∀ k, (v.access k).heldBy g = false) ∧
    (∀ v ∈ [Verb.setConfig, .resetUnit], (v.access .input).heldBy g = g.getLsbD 0) ∧
    (∀ v ∈ [Verb.tune, .stop], (v.access .path).heldBy g = g.getLsbD 1) ∧
    (Verb.access .setConfig .path).heldBy g = g.getLsbD 2 ∧
    (∀ v ∈ [Verb.setConfig, .bind, .resetUnit], (v.access .output).heldBy g = g.getLsbD 3) ∧
    (Verb.access .scan .path).heldBy g = g.getLsbD 4 ∧ (Verb.access .clearScan .device).heldBy g = g.getLsbD 4 ∧
    (∀ k, (Verb.access .clearCounters k).heldBy g = g.getLsbD 5) ∧ (∀ k, (Verb.access .readCounters k).heldBy g = g.getLsbD 6) ∧
    (∀ v ∈ [Verb.ackFault, .resetUnit], (v.access .path).heldBy g = g.getLsbD 7) := by
  simp [Verb.access, Access.heldBy, countersViewBit]

/-- Settles O9: the checks in their order, then the three tables. -/
theorem dispatchChecksInOrder : Obligations.DispatchChecksInOrder := by
  refine ⟨fun s r => ⟨fun verb unknown => dispatch_unknownUnit unknown s verb, fun u names => ⟨dispatch_noVerb names, fun v =>
    ⟨dispatch_unknownVerb names, dispatch_unitOff names, dispatch_notGranted_of_enabled names, dispatch_badLength names,
      dispatch_badValue names, dispatch_checksPass⟩⟩⟩, unitOf_table, ?_⟩
  obtain ⟨t₁, t₂, t₃, t₄, t₅, t₆, t₇⟩ := takers_table
  obtain ⟨l₁, l₂, l₃, l₄, l₅⟩ := lengths_table
  exact ⟨t₁, t₂, t₃, t₄, t₅, t₆, t₇, l₁, l₂, l₃, l₄, l₅, access_table⟩

/-! ### A refused request (R165, R166) -/

theorem dispatch_hunt (s : State) (p : Port) (verb : Option Verb) (r : Request) : (s.hunt p).dispatch verb r = s.dispatch verb r := rfl

theorem takeRequest_full {s : State} {r : Request} (full : 8 ≤ (s.link.replies.get r.port).length) (verb : Option Verb) :
    s.takeRequest verb r = s := if_pos full

theorem takeRequest_refused {s : State} {r : Request} {verb : Option Verb} {st : Status}
    (room : (s.link.replies.get r.port).length < 8) (refuses : s.dispatch verb r = .inl st) :
    s.takeRequest verb r = s.sendReply r.port { unit := r.unit, tag := r.tag, status := st, body := [], thenReset := false } := by
  unfold State.takeRequest
  rw [if_neg (Nat.not_le.mpr room), refuses]
  rfl

/-- Settles O10: dispatch's own refusals, and the full queue. -/
theorem refusedRequestChangesNothing : Obligations.RefusedRequestChangesNothing := by
  intro s v r released
  refine ⟨fun st room refuses => ?_, fun full => ?_⟩
  · rw [RefusedWith, exec_requestCommand, live_running released, requestArrives,
      takeRequest_refused (s := s.hunt r.port) room (by rw [dispatch_hunt, refuses])]
  · rw [exec_requestCommand, live_running released, requestArrives, takeRequest_full (s := s.hunt r.port) full]

end Sys2Proof.Machine
end

section
/-! How a request that reaches its unit ends, from what its unit answers whatever the link block holds; and the queries (R18, R44, R72, R116,
R131, R134, R157 to R159, R164, R173, R186): O11. -/

namespace Sys2Proof.Machine

open Sys2Proof

/-! ### From the answer of the unit to the completion of the command -/

/-- The unit answers alike whatever becomes of the link block: its receiver in HUNT again, its transmitter occupied. -/
theorem takenWith_of_units {s : State} {v : Verb} {r : Request} {u : UnitId} {st : Status} {body : List Byte} {effect : State → State}
    (hands : HandsOver s v r u) (taken : st.isTaken = true)
    (answers : ∀ f : Link → Link, answer v (takenOf r u) (s.modLink f) =
      { status := st, body, state := effect (s.modLink f), thenReset := false }) : TakenWith v s r u st body effect :=
  takenWith_of_answer hands taken (answers _) fun x => by
    have both : (s.hunt r.port).occupyCp x =
        s.modLink (fun l => Link.send { l with rx := l.rx.set r.port .hunt } .cp x) := rfl
    rw [both, answers]

theorem refusedWith_of_units {s : State} {v : Verb} {r : Request} {u : UnitId} {st : Status} (hands : HandsOver s v r u)
    (untaken : st.isTaken = false) (wanted : st.needsWanting = false)
    (answers : ∀ f : Link → Link, answer v (takenOf r u) (s.modLink f) = refused st (s.modLink f)) : RefusedWith v s r st :=
  refusedWith_of_answer hands untaken wanted (answers _)

@[simp] theorem takenOf_unit (r : Request) (u : UnitId) : (takenOf r u).unit = u := rfl

@[simp] theorem takenOf_port (r : Request) (u : UnitId) : (takenOf r u).port = r.port := rfl

@[simp] theorem takenOf_body (r : Request) (u : UnitId) : (takenOf r u).body = bodyOf r := rfl

@[simp] theorem takenOf_wanted (r : Request) (u : UnitId) : (takenOf r u).wanted = replyWanted r := rfl

/-! ### The queries -/

/-- The receivers have no part in a status. -/
theorem status_hunt (s : State) (p : Port) (u : UnitId) (port : Port) : (s.hunt p).status u port = s.status u port := by cases u <;> rfl

theorem configuration_modLink (s : State) (f : Link → Link) (u : UnitId) : (s.modLink f).configuration u = s.configuration u := by
  cases u <;> rfl

theorem table_modLink (s : State) (f : Link → Link) (u : UnitId) (tableId start : Byte) :
    (s.modLink f).table u tableId start = s.table u tableId start := by
  cases u <;> rfl

theorem counter_modLink (s : State) (f : Link → Link) (c : CounterId) : (s.modLink f).counter c = s.counter c := by cases c <;> rfl

theorem counterFields_modLink (s : State) (f : Link → Link) : (s.modLink f).counterFields = s.counterFields := by
  funext c
  simp only [State.counterFields, counter_modLink]

theorem getStatus_takenWith {s : State} {r : Request} {u : UnitId} (hands : HandsOver s .getStatus r u) :
    TakenWith .getStatus s r u .ok (s.status u r.port) id :=
  takenWith_of_answer hands rfl (by
    have same := status_hunt s r.port u r.port
    simp only [answer, answerGetStatus, done, takenOf_unit, takenOf_port, same, id]) fun _ => rfl

theorem getConfig_takenWith {s : State} {r : Request} {u : UnitId} (hands : HandsOver s .getConfig r u) :
    TakenWith .getConfig s r u .ok (s.configuration u) id :=
  takenWith_of_units hands rfl fun f => by
    simp only [answer, answerGetConfig, done, takenOf_unit, configuration_modLink, id]

theorem readTable_takenWith {s : State} {r : Request} {u : UnitId} (tableId start : Byte) (body : List Byte)
    (hands : HandsOver s .readTable r u) (two : bodyOf r = [tableId, start]) (holds : s.table u tableId start = some body) :
    TakenWith .readTable s r u .ok body id :=
  takenWith_of_units hands rfl fun f => by
    simp only [answer, answerReadTable, takenOf_unit, takenOf_body, two, table_modLink, holds, done, id]

theorem readTable_refusedWith {s : State} {r : Request} {u : UnitId} (tableId start : Byte) (hands : HandsOver s .readTable r u)
    (two : bodyOf r = [tableId, start]) (none : s.table u tableId start = none) : RefusedWith .readTable s r .badValue :=
  refusedWith_of_units hands rfl rfl fun f => by
    simp only [answer, answerReadTable, takenOf_unit, takenOf_body, two, table_modLink, none]

theorem readCounters_takenWith {s : State} {r : Request} {u : UnitId} (mask : Byte) (cs : List CounterId)
    (hands : HandsOver s .readCounters r u) (one : bodyOf r = [mask]) (selects : selection (unitCounters u) mask = some cs) :
    TakenWith .readCounters s r u .ok (cs.flatMap s.counterFields) id :=
  takenWith_of_units hands rfl fun f => by
    simp only [answer, answerReadCounters, takenOf_unit, takenOf_body, one, selects, done, counterFields_modLink, id]

theorem readCounters_refusedWith {s : State} {r : Request} {u : UnitId} (mask : Byte) (hands : HandsOver s .readCounters r u)
    (one : bodyOf r = [mask]) (none : selection (unitCounters u) mask = none) : RefusedWith .readCounters s r .badValue :=
  refusedWith_of_units hands rfl rfl fun f => by
    simp only [answer, answerReadCounters, takenOf_unit, takenOf_body, one, none]

/-! ### The bytes of a status (R164) -/

/-- The wrap summary is hidden from a service port without COUNTERS_VIEW (R159). -/
theorem deviceStatus_bytes (s : State) (port : Port) : s.status .device port =
    half (s.device.unitEnable ||| 0x1002) ++ [s.device.grants] ++ u8 s.device.reference.code ++ flagByte s.device.extPresent ++
      u8 s.link.cpSpeed.code ++ word s.device.uptime ++ u8 s.device.scanList.length ++ half s.device.scanNumber ++
      u8 s.link.notices.length ++ flagByte s.link.overrun ++
      listField (fun c => u8 c.unit.number ++ u8 c.number)
        (if port = .sp ∧ s.device.grants.getLsbD 6 = false then [] else s.wrapSummary) ++
      tagPair (s.lastTags.get .device) := by
  have hidden : (port == .sp && !(Access.granted countersViewBit).heldBy s.device.grants) =
      decide (port = .sp ∧ s.device.grants.getLsbD 6 = false) := by
    have bit : (Access.granted countersViewBit).heldBy s.device.grants = s.device.grants.getLsbD 6 := rfl
    rw [bit]
    cases port <;> cases s.device.grants.getLsbD 6 <;> rfl
  have names : counterName = fun c => u8 c.unit.number ++ u8 c.number := rfl
  simp only [State.status, State.deviceStatus, sentEnables, hidden, decide_eq_true_eq, names]

theorem qualityField_bytes (q : Quality) : qualityField q = match q with
    | .none => [0, 0, 0]
    | .invalid => [1, 0, 0]
    | .mer n => 2 :: u16 n := by
  cases q <;> rfl

theorem serviceField_bytes (v : Service) : serviceField v = match v with
    | .idle => [0, 0]
    | .burst p _ _ => 1 :: u8 (pathNumber p)
    | .refresh => [2, 0] := by
  cases v <;> rfl

theorem anchorBytes_eq (a : Option Int) : anchorBytes a = match a with
    | some a => i16 a
    | none => [0, 0] := by
  cases a <;> rfl

theorem echoFlags_eq (t : Tracker) : echoFlags t =
    (if t.anchor.isSome then 1 else 0) + (if t.spill then 2 else 0) + if t.origin.isSome then 4 else 0 := by
  unfold echoFlags boolCode
  split_ifs <;> rfl

theorem pathStatus_bytes (s : State) (p : PathId) (port : Port) : let x := s.path p
    s.status (.path p) port = u8 x.state.code ++
      optionalField 10 (fun t => u8 (inputCode t.input) ++ u8 (bandCode t.band) ++ u8 t.channel ++ i16 t.offset ++ flagByte t.persist ++
        tagPair (some t.sender) ++ u8 t.attempts ++ u8 t.result.code) x.tune ++
      optionalField 16 (fun h => [h.record.symbolMode, h.record.guardFraction, h.record.constellation, h.record.codeRate] ++
        word h.record.depth ++ word h.record.streamRate ++ half h.record.cellIdentity ++ [h.record.changeCount] ++
        flagByte h.unsupported) x.sig ++
      u8 (if x.state = .pageWait then s.waitedNeed p else x.pages.length) ++ optionalField 2 i16 x.tracker.anchor ++
      flagByte x.tracker.spill ++ (match x.quality with
        | .none => [0, 0, 0]
        | .invalid => [1, 0, 0]
        | .mer n => 2 :: u16 n) ++ optionalField 4 word x.latched ++ flagByte x.fault.hold ++
      optionalField 1 (fun c => u8 c.code) x.fault.primary ++ optionalField 1 (fun c => u8 c.code) x.fault.secondary ++
      tagPair (s.lastTags.get (.path p)) ++
      optionalField 12 (fun r => u8 (inputCode r.input) ++ u8 (bandCode r.band) ++ u8 r.first ++ u8 r.last ++ tagPair (some r.sender) ++
        u8 r.current ++ u8 r.phase.code ++ u8 r.done ++ u8 r.finds ++ flagByte r.truncated ++ flagByte r.stopped) x.scan := by
  simp only [State.status, State.pathStatus, State.pageHolding, qualityField_bytes]
  rfl

theorem storeStatus_bytes (s : State) (port : Port) : s.status .store port =
    u16 s.store.fitment ++ u16 s.store.free.length ++ [PathId.p0, .p1, .p2, .p3].flatMap (fun p => u8 (s.path p).pages.length) ++
      listField (fun w => u8 (pathNumber w.path) ++ u8 w.need) s.store.wait ++ half s.store.alloc ++ (match s.store.service with
        | .idle => [0, 0]
        | .burst p _ _ => 1 :: u8 (pathNumber p)
        | .refresh => [2, 0]) ++ u8 (pathNumber s.store.lastGranted) ++ u8 s.store.refreshPending ++
      [PathId.p0, .p1, .p2, .p3].flatMap (fun p => u8 (s.path p).staging.length) ++
      [PathId.p0, .p1, .p2, .p3].flatMap (fun p => u8 (s.path p).discardRun) ++ tagPair (s.lastTags.get .store) := by
  simp only [State.status, State.storeStatus, serviceField_bytes]
  rfl

/-! ### The bytes of a configuration, of tables and of counters -/

theorem inputConfiguration_bytes (s : State) (i : InputId) : let x := s.input i
    s.configuration (.input i) = 1 :: u16 x.gainMode.code ++ 2 :: u16 x.gain ++ 3 :: u16 x.low ++ 4 :: u16 x.high ++
      5 :: u16 x.clipLimit ++ 6 :: u16 x.impulseThreshold ++ 7 :: u16 (if x.mastItem then 1 else 0) := by
  have mode : inputItem (s.input i) 1 = (s.input i).gainMode.code := by
    change (match (s.input i).gainMode with
      | .auto => 0
      | .manual => 1) = _
    cases (s.input i).gainMode <;> rfl
  simp only [State.configuration, itemPairs, List.flatMap_cons, List.flatMap_nil, mode]
  rfl

theorem inhibitCode_eq (c : PathConfig) : boolCode c.inhibitAcquiring + 2 * boolCode c.inhibitHoldover =
    (if c.inhibitAcquiring then 1 else 0) + if c.inhibitHoldover then 2 else 0 := by
  unfold boolCode
  split_ifs <;> rfl

theorem pathConfiguration_bytes (s : State) (p : PathId) : let c := (s.path p).config
    s.configuration (.path p) = 1 :: u16 (if c.persist then 1 else 0) ++ 2 :: u16 c.holdoverTime ++ 3 :: u16 c.windowExp ++
      4 :: u16 c.lossThreshold ++ 5 :: u16 c.recoveryHyst ++ 6 :: u16 c.echoFloor ++ 7 :: u16 c.fadeLimit ++ 8 :: u16 c.moveThreshold ++
      9 :: u16 c.slewLimit ++ 10 :: u16 c.bias ++
      11 :: u16 ((if c.inhibitAcquiring then 1 else 0) + if c.inhibitHoldover then 2 else 0) := by
  dsimp only
  rw [← inhibitCode_eq]
  rfl

/-- The tables each unit holds (R173). -/
theorem table_isSome_iff (s : State) (u : UnitId) (tableId start : Byte) : (s.table u tableId start).isSome = true ↔
    (u = .device ∧ tableId = 5) ∨ (u.kind = .path ∧ (tableId = 1 ∨ tableId = 2)) ∨ (u = .store ∧ (tableId = 3 ∨ tableId = 4)) := by
  cases u with
  | device =>
    simp only [State.table]
    split_ifs <;> simp_all [UnitId.kind]
  | path p =>
    simp only [State.table]
    split_ifs <;> simp_all [UnitId.kind]
  | store =>
    simp only [State.table]
    split_ifs <;> simp_all [UnitId.kind]
  | input i => simp [State.table, UnitId.kind]
  | output o => simp [State.table, UnitId.kind]

/-- A table's reply from the length of its header and the number of entries that fit beside it (R173). -/
theorem tableBody_of_length {α : Type} {header : List Byte} {width n m : Nat} (length : header.length = n) (fits : (247 - n) / width = m)
    (enc : α → List Byte) (entries : List α) (start : Nat) :
    tableBody header width enc entries start = header ++ ((entries.drop start).take m).flatMap enc := by
  subst length fits
  rfl

theorem echoTable_bytes (s : State) (p : PathId) (start : Byte) : let t := (s.path p).tracker
    s.table (.path p) 1 start = some (u8 t.table.length ++ half t.estimate ++
      u8 ((if t.anchor.isSome then 1 else 0) + (if t.spill then 2 else 0) + if t.origin.isSome then 4 else 0) ++
      (match t.anchor with
        | some a => i16 a
        | none => [0, 0]) ++ u8 t.clampedRun ++ u16 t.guardLength ++
      ((t.table.drop start.toNat).take 39).flatMap (fun e => i16 e.delay ++ u8 e.attenuation ++ u8 e.status.code ++ u8 e.hits ++ u8 e.age)) := by
  intro t
  have nine : (echoHeader t).length = 9 := by
    cases anchor : t.anchor <;> simp [echoHeader, anchorBytes, anchor, u8, u16, half, i16]
  have entries : s.table (.path p) 1 start = some (tableBody (echoHeader t) 6 echoFields t.table start.toNat) := rfl
  rw [entries, tableBody_of_length nine rfl, echoHeader, echoFlags_eq, anchorBytes_eq]
  rfl

theorem pageTable_bytes (s : State) (p : PathId) (start : Byte) : s.table (.path p) 2 start =
    some (u8 (s.path p).pages.length ++ u8 (s.waitedNeed p) ++ half s.store.alloc ++
      (((s.path p).pages.drop start.toNat).take 243).flatMap u8) :=
  congrArg some (tableBody_of_length (header := u8 _ ++ u8 _ ++ half _) (width := 1) (n := 4) rfl rfl u8 _ _)

/-- The store's tables (R173): the free pages, one byte each, and the waiting paths, two bytes each. -/
theorem storeTables_bytes (s : State) (start : Byte) :
    s.table .store 3 start = some (u16 s.store.free.length ++ half s.store.alloc ++ ((s.store.free.drop start.toNat).take 243).flatMap u8) ∧
    s.table .store 4 start = some (u16 s.store.wait.length ++ half s.store.alloc ++
      ((s.store.wait.drop start.toNat).take 121).flatMap (fun w => u8 (pathNumber w.path) ++ u8 w.need)) :=
  ⟨congrArg some (tableBody_of_length (header := u16 _ ++ half _) (width := 1) (n := 4) rfl rfl u8 _ _),
    congrArg some (tableBody_of_length (header := u16 _ ++ half _) (width := 2) (n := 4) rfl rfl waitFields _ _)⟩

/-- The device's table, the entries of the scan list (R173, R58). -/
theorem scanTable_bytes (s : State) (start : Byte) :
    s.table .device 5 start = some (u8 s.device.scanList.length ++ half s.device.scanNumber ++
      ((s.device.scanList.drop start.toNat).take 16).flatMap (fun e => u8 (inputCode e.input) ++ u8 (bandCode e.band) ++ u8 e.channel ++
        half e.cellIdentity ++ [e.symbolMode, e.guardFraction, e.constellation, e.codeRate] ++ word e.streamRate ++ u8 e.gain ++
        flagByte e.unsupported)) :=
  congrArg some (tableBody_of_length (header := u8 _ ++ half _) (width := 15) (n := 3) rfl rfl scanEntryFields _ _)

theorem counterFields_bytes (s : State) (c : CounterId) :
    s.counterFields c = u8 c.number ++ word (s.counter c).value ++ flagByte (s.counter c).overflow := rfl

/-- Settles O11: what each query answers, then the bytes of every status, configuration, table and counter. -/
theorem queriesAnswerAndChangeNothing : Obligations.QueriesAnswerAndChangeNothing := by
  refine ⟨fun s r u => ⟨getStatus_takenWith, getConfig_takenWith, readTable_takenWith, readTable_refusedWith, readCounters_takenWith,
      readCounters_refusedWith⟩, deviceStatus_bytes, fun _ _ _ => rfl, pathStatus_bytes, fun _ _ _ => rfl, storeStatus_bytes, ?_,
    inputConfiguration_bytes, pathConfiguration_bytes, fun _ _ => rfl, table_isSome_iff,
    fun s p start => ⟨echoTable_bytes s p start, pageTable_bytes s p start⟩,
    fun s start => and_assoc.mp ⟨storeTables_bytes s start, scanTable_bytes s start⟩, counterFields_bytes⟩
  exact ⟨rfl, rfl, rfl, rfl, rfl, rfl, rfl, rfl, rfl, rfl, rfl, rfl, rfl, fun _ => ⟨rfl, rfl⟩⟩

end Sys2Proof.Machine
end

section
/-! SET_CONFIG (R2, R8, R9, R15, R18, R42, R43, R130, R170): what each item stores, what each kind of unit does with the whole, and O12. -/

namespace Sys2Proof.Machine

open Sys2Proof

/-! ### Items (9.6, R9, R42, R125) -/

theorem namesItem_eq (items : List Item) {code : Byte} {n : Nat} (is : code.toNat = n) :
    namesItem items n = items.any (fun e => e.code == code) := by
  subst is
  have same (e : Item) : (e.code.toNat == code.toNat) = (e.code == code) := by
    rw [Bool.eq_iff_iff, beq_iff_eq, beq_iff_eq, BitVec.toNat_inj]
  simp only [namesItem, same]

theorem ne_zero_one_of_more {w : Nat} {b : BitVec w} (more : 1 < b.toNat) : b ≠ 0 ∧ b ≠ 1 := by
  constructor
  · rintro rfl
    simp at more
  · rintro rfl
    exact absurd (BitVec.toNat_ofNat 1 w ▸ more) (Nat.not_lt.mpr (Nat.mod_le _ _))

theorem twoValued_of_more {v : Half} (more : 1 < v.toNat) : twoValued v = none := by
  obtain ⟨notZero, notOne⟩ := ne_zero_one_of_more more
  rw [twoValued, if_neg notZero, if_neg notOne]

theorem clampNat_zero (hi n : Nat) : clampNat 0 hi n = min hi n := Nat.zero_max _

theorem setInputItem_table (x : Input) (v : Half) : let n := v.toNat
    setInputItem x ⟨1, 0⟩ = some { x with gainMode := .auto } ∧ setInputItem x ⟨1, 1⟩ = some { x with gainMode := .manual } ∧
    (1 < n → setInputItem x ⟨1, v⟩ = none ∧ setInputItem x ⟨7, v⟩ = none) ∧
    setInputItem x ⟨2, v⟩ = some { x with gain := min 63 n } ∧ setInputItem x ⟨3, v⟩ = some { x with low := min 255 n } ∧
    setInputItem x ⟨4, v⟩ = some { x with high := min 255 n } ∧ setInputItem x ⟨5, v⟩ = some { x with clipLimit := min 255 n } ∧
    setInputItem x ⟨6, v⟩ = some { x with impulseThreshold := min 255 n } ∧
    setInputItem x ⟨7, 0⟩ = some { x with mastItem := false } ∧ setInputItem x ⟨7, 1⟩ = some { x with mastItem := true } ∧
    (∀ code : Byte, (code = 0 ∨ 7 < code.toNat) → setInputItem x ⟨code, v⟩ = none) := by
  refine ⟨rfl, rfl, fun more => ?_, ?_, ?_, ?_, ?_, ?_, rfl, rfl, fun code outside => ?_⟩
  · simp [setInputItem, twoValued_of_more more]
  iterate 5 simp [setInputItem, clampNat_zero]
  · obtain rfl | above := outside
    · rfl
    · unfold setInputItem
      split <;> simp_all

theorem setPathItem_table (c : PathConfig) (v : Half) : let n := v.toNat
    setPathItem c ⟨1, 0⟩ = some { c with persist := false } ∧ setPathItem c ⟨1, 1⟩ = some { c with persist := true } ∧
    (1 < n → setPathItem c ⟨1, v⟩ = none) ∧
    setPathItem c ⟨2, v⟩ = some { c with holdoverTime := max 50 (min 5000 n) } ∧
    setPathItem c ⟨3, v⟩ = some { c with windowExp := max 2 (min 10 n) } ∧
    setPathItem c ⟨4, v⟩ = some { c with lossThreshold := min 400 n } ∧ setPathItem c ⟨5, v⟩ = some { c with recoveryHyst := min 100 n } ∧
    setPathItem c ⟨6, v⟩ = some { c with echoFloor := max 24 (min 160 n) } ∧
    setPathItem c ⟨7, v⟩ = some { c with fadeLimit := max 1 (min 15 n) } ∧
    setPathItem c ⟨8, v⟩ = some { c with moveThreshold := min 255 n } ∧
    setPathItem c ⟨9, v⟩ = some { c with slewLimit := max 1 (min 1024 n) } ∧ setPathItem c ⟨10, v⟩ = some { c with bias := min 8 n } ∧
    (n < 4 → setPathItem c ⟨11, v⟩ = some { c with inhibitAcquiring := v.getLsbD 0, inhibitHoldover := v.getLsbD 1 }) ∧
    (4 ≤ n → setPathItem c ⟨11, v⟩ = none) ∧
    (∀ code : Byte, (code = 0 ∨ 11 < code.toNat) → setPathItem c ⟨code, v⟩ = none) := by
  refine ⟨rfl, rfl, fun more => ?_, rfl, rfl, ?_, ?_, rfl, rfl, ?_, rfl, ?_, fun few => ?_, fun many => ?_, fun code outside => ?_⟩
  · simp [setPathItem, twoValued_of_more more]
  iterate 4 simp [setPathItem, clampNat_zero]
  · exact if_pos few
  · exact if_neg (Nat.not_lt.mpr many)
  · obtain rfl | above := outside
    · rfl
    · unfold setPathItem
      split <;> simp_all

theorem setOutputItem_table (x : Policy) (v : Half) : setOutputItem x ⟨1, 0⟩ = some .mark ∧ setOutputItem x ⟨1, 1⟩ = some .null ∧
    setOutputItem x ⟨1, 2⟩ = some .drop ∧ (2 < v.toNat → setOutputItem x ⟨1, v⟩ = none) ∧
    (∀ code : Byte, code ≠ 1 → setOutputItem x ⟨code, v⟩ = none) := by
  refine ⟨rfl, rfl, rfl, fun more => ?_, fun code other => ?_⟩
  · unfold setOutputItem
    rw [if_pos]
    · split <;> simp_all
    · rfl
  · exact if_neg fun one => other (BitVec.eq_of_toNat_eq one)

theorem applyItems_cons {α : Type} (set : α → Item → Option α) (x : α) (e : Item) (rest : List Item) :
    applyItems set x (e :: rest) = (set x e).bind (fun x => applyItems set x rest) := by
  rw [applyItems]
  cases set x e <;> rfl

/-! ### An input's draft and its effects (R8, R9, R13, R15, R18) -/

theorem draftInput_iff (x : Input) (items : List Item) (y : Input) : draftInput x items = some y ↔
    applyItems setInputItem x items = some y ∧ (items.any (fun e => e.code == 2) = true → y.gainMode = .manual) ∧ y.low < y.high := by
  rw [draftInput, ← namesItem_eq items (code := 2) rfl]
  cases applied : applyItems setInputItem x items with
  | none => simp
  | some z =>
    have accepts : ¬((namesItem items 2 = true ∧ z.gainMode ≠ .manual) ∨ z.high ≤ z.low) ↔
        (namesItem items 2 = true → z.gainMode = .manual) ∧ z.low < z.high := by
      rw [not_or, not_and, not_not, Nat.not_le]
    dsimp only
    by_cases refused : (namesItem items 2 = true ∧ z.gainMode ≠ .manual) ∨ z.high ≤ z.low
    · rw [if_pos refused]
      simp only [reduceCtorEq, Option.some.injEq, false_iff]
      rintro ⟨rfl, fits⟩
      exact accepts.mpr fits refused
    · rw [if_neg refused]
      simp only [Option.some.injEq]
      exact ⟨fun same => ⟨same, same ▸ accepts.mp refused⟩, And.left⟩

theorem configureInput_eq (s : State) (i : InputId) (y : Input) (items : List Item) :
    let stored := (s.modInput i (fun x => { x with
      gainMode := y.gainMode, low := y.low, high := y.high, clipLimit := y.clipLimit, impulseThreshold := y.impulseThreshold,
      impulse := x.impulse && y.impulseThreshold != 0 })).setGain i y.gain
    s.configureInput i y items = if items.any (fun e => e.code == 7) then stored.setMast i y.mastItem else stored := by
  rw [← namesItem_eq items (code := 7) rfl]
  rfl

theorem gainChanged_inputs (s : State) (i : InputId) : (s.gainChanged i).inputs = s.inputs :=
  (Quiet.foldl (fun s p => modPath_quiet s p _) _ s).inputs

theorem setGain_input (s : State) (i : InputId) (g : Nat) : (s.setGain i g).input i = { s.input i with gain := g } := by
  unfold State.setGain
  split_ifs with same
  · rw [← same]
  · simp [gainChanged_inputs]

/-- The mast supply by the item and the state it finds (R15). -/
theorem setMast_table (s : State) (i : InputId) :
    let on := s.modInput i (fun x => { x with mastItem := true })
    let off := s.modInput i (fun x => { x with mastItem := false })
    let turnedOn := (on.modInput i (fun x => { x with mast := .on, retries := 0, retryTimer := none, tripFreeTimer := some 60000 })).raise
      (.input i) (.mastSupply (s.input i).mast .on 0)
    let turnedOff := (off.modInput i (fun x => { x with mast := .off, retries := 0, retryTimer := none, tripFreeTimer := none })).raise
      (.input i) (.mastSupply (s.input i).mast .off 0)
    ((s.input i).mast = .off ∨ (s.input i).mast = .lockout → s.setMast i true = turnedOn) ∧
    ((s.input i).mast = .on ∨ (s.input i).mast = .tripped → s.setMast i true = on) ∧
    ((s.input i).mast = .off → s.setMast i false = off) ∧ ((s.input i).mast ≠ .off → s.setMast i false = turnedOff) := by
  intro on off turnedOn turnedOff
  have mast (b : Bool) : ((s.modInput i (fun x => { x with mastItem := b })).input i).mast = (s.input i).mast := by simp
  have moved (b : Bool) (new : MastState) (t : Timer) : (s.modInput i (fun x => { x with mastItem := b })).moveMast i new 0 none t =
      ((s.modInput i (fun x => { x with mastItem := b })).modInput i
        (fun x => { x with mast := new, retries := 0, retryTimer := none, tripFreeTimer := t })).raise (.input i)
          (.mastSupply (s.input i).mast new 0) := by
    rw [State.moveMast, mast]
  refine ⟨?_, ?_, fun stands => ?_, fun stands => ?_⟩
  · rintro (stands | stands) <;> simp only [State.setMast, mast, stands, moved, turnedOn, on]
  · rintro (stands | stands) <;> simp only [State.setMast, mast, stands] <;> rfl
  · simp only [State.setMast, mast, stands]
    rfl
  · cases found : (s.input i).mast with
    | off => exact absurd found stands
    | _ => simp only [State.setMast, mast, found, moved, turnedOff, off]

/-- What the items but MAST set. -/
def Input.settings (x : Input) : GainMode × Nat × Nat × Nat × Nat × Nat :=
  (x.gainMode, x.gain, x.low, x.high, x.clipLimit, x.impulseThreshold)

theorem setMast_input (s : State) (i : InputId) (b : Bool) :
    ((s.setMast i b).input i).settings = (s.input i).settings ∧ ((s.setMast i b).input i).mastItem = b := by
  obtain ⟨turnsOn, staysOn, staysOff, turnsOff⟩ := setMast_table s i
  cases b with
  | true =>
    by_cases moves : (s.input i).mast = .off ∨ (s.input i).mast = .lockout
    · rw [turnsOn moves]
      simp [Input.settings]
    · have stays : (s.input i).mast = .on ∨ (s.input i).mast = .tripped := by
        cases mast : (s.input i).mast <;> simp_all
      rw [staysOn stays]
      simp [Input.settings]
  | false =>
    by_cases stays : (s.input i).mast = .off
    · rw [staysOff stays]
      simp [Input.settings]
    · rw [turnsOff stays]
      simp [Input.settings]

theorem inputItem_congr {x y : Input} {c : Byte} (settings : x.settings = y.settings) (mast : c.toNat = 7 → x.mastItem = y.mastItem) :
    inputItem x c = inputItem y c := by
  simp only [Input.settings, Prod.mk.injEq] at settings
  obtain ⟨mode, gain, low, high, clip, threshold⟩ := settings
  unfold inputItem
  split <;> simp_all

/-- The reply gives the values of the draft: what the request names stands after it. -/
theorem configureInput_items (s : State) (i : InputId) (y : Input) (items : List Item) :
    itemPairs (inputItem ((s.configureInput i y items).input i)) (items.map Item.code) =
      itemPairs (inputItem y) (items.map Item.code) := by
  have stored : (((s.modInput i (fun x => x.store y)).setGain i y.gain).input i).settings = y.settings := by
    rw [setGain_input]
    simp [Input.store, Input.settings]
  have each (c : Byte) (named : c ∈ items.map Item.code) :
      inputItem ((s.configureInput i y items).input i) c = inputItem y c := by
    unfold State.configureInput
    by_cases names : namesItem items 7 = true
    · obtain ⟨settings, mast⟩ := setMast_input ((s.modInput i (fun x => x.store y)).setGain i y.gain) i y.mastItem
      rw [if_pos names]
      exact inputItem_congr (settings.trans stored) fun _ => mast
    · rw [if_neg names]
      refine inputItem_congr stored fun seven => absurd ?_ names
      obtain ⟨e, mem, rfl⟩ := List.mem_map.mp named
      exact List.any_eq_true.mpr ⟨e, mem, beq_iff_eq.mpr seven⟩
  unfold itemPairs
  exact List.flatMap_congr fun c named => by rw [each c named]

/-! ### SET_CONFIG at each kind of unit -/

section
variable {s : State} {r : Request}

theorem setConfig_input_busy {i : InputId} (hands : HandsOver s .setConfig r (.input i)) (calibrating : (s.input i).state = .calibrating) :
    RefusedWith .setConfig s r .busy :=
  refusedWith_of_units hands rfl rfl fun f => by
    have stands : ((s.modLink f).input i).state = .calibrating := calibrating
    simp only [answer, answerSetConfig, takenOf_unit, setConfigInput, stands]

theorem setConfig_input_badValue {i : InputId} (hands : HandsOver s .setConfig r (.input i)) (running : (s.input i).state = .running)
    (noDraft : draftInput (s.input i) (itemsOf (bodyOf r)) = none) : RefusedWith .setConfig s r .badValue :=
  refusedWith_of_units hands rfl rfl fun f => by
    have stands : ((s.modLink f).input i).state = .running := running
    have none : draftInput ((s.modLink f).input i) (itemsOf (bodyOf r)) = none := noDraft
    simp only [answer, answerSetConfig, takenOf_unit, takenOf_body, setConfigInput, stands, none]

theorem setConfig_input_taken {i : InputId} (hands : HandsOver s .setConfig r (.input i)) (y : Input)
    (running : (s.input i).state = .running) (draft : draftInput (s.input i) (itemsOf (bodyOf r)) = some y) :
    TakenWith .setConfig s r (.input i) .ok (itemPairs (inputItem y) ((itemsOf (bodyOf r)).map Item.code))
      (fun s => s.configureInput i y (itemsOf (bodyOf r))) :=
  takenWith_of_units hands rfl fun f => by
    have stands : ((s.modLink f).input i).state = .running := running
    have some : draftInput ((s.modLink f).input i) (itemsOf (bodyOf r)) = some y := draft
    simp only [answer, answerSetConfig, takenOf_unit, takenOf_body, setConfigInput, stands, some, done, configureInput_items]

theorem setConfig_path_refused {p : PathId} {st : Status} (hands : HandsOver s .setConfig r (.path p)) (untaken : st.isTaken = false)
    (wanted : st.needsWanting = false)
    (refuses : ∀ f : Link → Link, setConfigPath p (itemsOf (bodyOf r)) (s.modLink f) = refused st (s.modLink f)) :
    RefusedWith .setConfig s r st :=
  refusedWith_of_units hands untaken wanted fun f => refuses f

theorem setConfigPath_of_none {p : PathId} {items : List Item} (noScan : (s.path p).state ≠ .scan) (noHalt : (s.path p).state ≠ .halt)
    (fails : applyItems setPathItem (s.path p).config items = none) : setConfigPath p items s = refused .badValue s := by
  simp only [setConfigPath, if_neg noScan, if_neg noHalt, fails]

theorem setConfigPath_of_some {p : PathId} {items : List Item} {c : PathConfig} (noScan : (s.path p).state ≠ .scan)
    (noHalt : (s.path p).state ≠ .halt) (applied : applyItems setPathItem (s.path p).config items = some c) :
    setConfigPath p items s = done (itemPairs (pathItem c) (items.map Item.code)) (s.modPath p (fun x => x.configure c items)) := by
  simp only [setConfigPath, if_neg noScan, if_neg noHalt, applied]

theorem setConfig_path_taken {p : PathId} (hands : HandsOver s .setConfig r (.path p)) (c : PathConfig)
    (noScan : (s.path p).state ≠ .scan) (noHalt : (s.path p).state ≠ .halt)
    (applied : applyItems setPathItem (s.path p).config (itemsOf (bodyOf r)) = some c) :
    TakenWith .setConfig s r (.path p) .ok (itemPairs (pathItem c) ((itemsOf (bodyOf r)).map Item.code))
      (fun s => s.modPath p (fun x => { x with
        config := c
        tune := if (itemsOf (bodyOf r)).any (fun e => e.code == 1) then x.tune.map (fun t => { t with persist := c.persist })
          else x.tune })) := by
  rw [← namesItem_eq _ (code := 1) rfl]
  exact takenWith_of_units hands rfl fun f => setConfigPath_of_some (s := s.modLink f) noScan noHalt applied

theorem setConfig_path_badValue {p : PathId} (hands : HandsOver s .setConfig r (.path p)) (noScan : (s.path p).state ≠ .scan)
    (noHalt : (s.path p).state ≠ .halt) (fails : applyItems setPathItem (s.path p).config (itemsOf (bodyOf r)) = none) :
    RefusedWith .setConfig s r .badValue :=
  setConfig_path_refused hands rfl rfl fun f => setConfigPath_of_none (s := s.modLink f) noScan noHalt fails

theorem setConfig_output {o : OutputId} (hands : HandsOver s .setConfig r (.output o)) :
    (applyItems setOutputItem (s.output o).policy (itemsOf (bodyOf r)) = none → RefusedWith .setConfig s r .badValue) ∧
    (∀ c, applyItems setOutputItem (s.output o).policy (itemsOf (bodyOf r)) = some c →
      TakenWith .setConfig s r (.output o) .ok (itemPairs (fun _ => c.code) ((itemsOf (bodyOf r)).map Item.code))
        (fun s => s.modOutput o (fun x => { x with policy := c }))) := by
  refine ⟨fun fails => refusedWith_of_units hands rfl rfl fun f => ?_, fun c applied => takenWith_of_units hands rfl fun f => ?_⟩
  · have none : applyItems setOutputItem ((s.modLink f).output o).policy (itemsOf (bodyOf r)) = none := fails
    simp only [answer, answerSetConfig, takenOf_unit, takenOf_body, setConfigOutput, none]
  · have some : applyItems setOutputItem ((s.modLink f).output o).policy (itemsOf (bodyOf r)) = some c := applied
    simp only [answer, answerSetConfig, takenOf_unit, takenOf_body, setConfigOutput, some, done]

end

/-- Settles O12: the requests by kind of unit, the items one by one, the drafts and their effects. -/
theorem setConfigStoresTheItems : Obligations.SetConfigStoresTheItems := by
  refine ⟨fun s r => ⟨fun i hands => ⟨setConfig_input_busy hands, setConfig_input_badValue hands, setConfig_input_taken hands⟩,
      fun p hands => ⟨fun scans => ?_, fun halts => ?_, setConfig_path_badValue hands, setConfig_path_taken hands⟩,
      fun o hands => setConfig_output hands⟩,
    ⟨rfl, fun _ _ _ _ => rfl⟩, draftInput_iff, setInputItem_table, setPathItem_table, setOutputItem_table,
    fun x c y e rest => ⟨rfl, rfl, rfl, applyItems_cons _ _ _ _, applyItems_cons _ _ _ _, applyItems_cons _ _ _ _⟩,
    configureInput_eq, setMast_table⟩
  · exact setConfig_path_refused hands rfl rfl fun f => if_pos scans
  · refine setConfig_path_refused hands rfl rfl fun f => ?_
    have noScan : (s.path p).state ≠ .scan := by
      rw [halts]
      decide
    exact (if_neg noScan).trans (if_pos halts)

end Sys2Proof.Machine
end

section
/-! TUNE, STOP, SCAN and their conditions (R26, R27, R29, R91, R133, R134, R144, R171): O13 to O16. -/

namespace Sys2Proof.Machine

open Sys2Proof

/-! ### The body values of TUNE and SCAN (9.6) -/

theorem inputOf_of_more {b : Byte} (more : 1 < b.toNat) : inputOf b = none := by
  obtain ⟨notZero, notOne⟩ := ne_zero_one_of_more more
  rw [inputOf, if_neg notZero, if_neg notOne]

theorem bandOf_of_more {b : Byte} (more : 1 < b.toNat) : bandOf b = none := by
  obtain ⟨notZero, notOne⟩ := ne_zero_one_of_more more
  rw [bandOf, if_neg notZero, if_neg notOne]

theorem channelInBand_iii (c : Nat) : channelInBand .iii c = true ↔ 5 ≤ c ∧ c ≤ 12 := by
  rw [channelInBand, Bool.and_eq_true, decide_eq_true_eq, decide_eq_true_eq]
  rfl

theorem channelInBand_uhf (c : Nat) : channelInBand .uhf c = true ↔ 21 ≤ c ∧ c ≤ 48 := by
  rw [channelInBand, Bool.and_eq_true, decide_eq_true_eq, decide_eq_true_eq]
  rfl

/-! ### TUNE (R26, R27) -/

theorem tuneRefusal_of_ready {st : PathState} (ready : st ∉ [.off, .scan, .halt]) : tuneRefusal st = none := by
  cases st <;> simp_all [tuneRefusal]

section
variable {s : State} {r : Request} {p : PathId} {i b c hi lo n : Byte} {input : InputId} {band : Band}

theorem answerTune_of_values (five : bodyOf r = [i, b, c, hi, lo]) (hInput : inputOf i = some input) (hBand : bandOf b = some band)
    (inBand : channelInBand band c.toNat = true) : answer .tune (takenOf r (.path p)) s =
      tuneChecked p input band c.toNat (tuneOffset hi lo) (takenOf r (.path p)) s := by
  simp only [answer, answerTune, takenOf_unit, takenOf_body, five, hInput, hBand, inBand, if_true]

theorem answerTune_of_badValue (five : bodyOf r = [i, b, c, hi, lo])
    (bad : inputOf i = none ∨ bandOf b = none ∨ ∃ band, bandOf b = some band ∧ channelInBand band c.toNat = false) :
    answer .tune (takenOf r (.path p)) s = refused .badValue s := by
  simp only [answer, answerTune, takenOf_unit, takenOf_body, five]
  split
  · rename_i input band hInput hBand
    obtain none | none | ⟨other, hOther, outside⟩ := bad
    · simp [none] at hInput
    · simp [none] at hBand
    · obtain rfl : other = band := Option.some.inj (hOther.symm.trans hBand)
      simp [outside]
  · rfl

theorem tuneChecked_of_ready {t : Taken} {channel : Nat} {offset : Int} (ready : (s.path p).state ∉ [.off, .scan, .halt]) :
    tuneChecked p input band channel offset t s =
      if (s.input input).state = .off then refused .unitOff s
      else if t.conditionHolds (s.path p) = false then refused .conditionFalse s
      else accepted (i16 offset) (s.startTune p input band channel offset t.sender) := by
  rw [tuneChecked, tuneRefusal_of_ready ready]

theorem tune_badValue (hands : HandsOver s .tune r (.path p)) (five : bodyOf r = [i, b, c, hi, lo])
    (bad : inputOf i = none ∨ bandOf b = none ∨ ∃ band, bandOf b = some band ∧ channelInBand band c.toNat = false) :
    RefusedWith .tune s r .badValue :=
  refusedWith_of_units hands rfl rfl fun _ => answerTune_of_badValue five bad

theorem tune_refused_by_state {st : Status} (hands : HandsOver s .tune r (.path p)) (five : bodyOf r = [i, b, c, hi, lo])
    (hInput : inputOf i = some input) (hBand : bandOf b = some band) (inBand : channelInBand band c.toNat = true)
    (untaken : st.isTaken = false) (wanted : st.needsWanting = false) (refuses : tuneRefusal (s.path p).state = some st) :
    RefusedWith .tune s r st :=
  refusedWith_of_units hands untaken wanted fun f => by
    have stands : tuneRefusal ((s.modLink f).path p).state = some st := refuses
    rw [answerTune_of_values five hInput hBand inBand, tuneChecked, stands]

theorem tune_unitOff (hands : HandsOver s .tune r (.path p)) (five : bodyOf r = [i, b, c, hi, lo]) (hInput : inputOf i = some input)
    (hBand : bandOf b = some band) (inBand : channelInBand band c.toNat = true) (ready : (s.path p).state ∉ [.off, .scan, .halt])
    (off : (s.input input).state = .off) : RefusedWith .tune s r .unitOff :=
  refusedWith_of_units hands rfl rfl fun f => by
    rw [answerTune_of_values five hInput hBand inBand, tuneChecked_of_ready (s := s.modLink f) ready]
    exact if_pos off

theorem tune_conditionFalse (hands : HandsOver s .tune r (.path p)) (five : bodyOf r = [i, b, c, hi, lo])
    (hInput : inputOf i = some input) (hBand : bandOf b = some band) (inBand : channelInBand band c.toNat = true)
    (ready : (s.path p).state ∉ [.off, .scan, .halt]) (on : (s.input input).state ≠ .off)
    (fails : (takenOf r (.path p)).conditionHolds (s.path p) = false) : TakenWith .tune s r (.path p) .conditionFalse [] id :=
  takenWith_of_units hands rfl fun f => by
    rw [answerTune_of_values five hInput hBand inBand, tuneChecked_of_ready (s := s.modLink f) ready]
    exact (if_neg on).trans (if_pos fails)

theorem tune_accepted (hands : HandsOver s .tune r (.path p)) (five : bodyOf r = [i, b, c, hi, lo]) (hInput : inputOf i = some input)
    (hBand : bandOf b = some band) (inBand : channelInBand band c.toNat = true) (ready : (s.path p).state ∉ [.off, .scan, .halt])
    (on : (s.input input).state ≠ .off) (holds : (takenOf r (.path p)).conditionHolds (s.path p) = true) :
    TakenWith .tune s r (.path p) .accepted (i16 (tuneOffset hi lo))
      (fun s => s.startTune p input band c.toNat (tuneOffset hi lo) (takenOf r (.path p)).sender) :=
  takenWith_of_units hands rfl fun f => by
    rw [answerTune_of_values five hInput hBand inBand, tuneChecked_of_ready (s := s.modLink f) ready]
    exact (if_neg on).trans (if_neg fun fails => Bool.false_ne_true (fails.symm.trans holds))

/-- Settles O13: the TUNE taken, then its refusals in their order. -/
theorem tuneStartsAcquisition : Obligations.TuneStartsAcquisition := by
  refine ⟨fun s r p i b c hi lo input band hands five hInput hBand inBand ready on holds =>
    tune_accepted hands five hInput hBand inBand ready on holds, fun s r p i b c hi lo hands five => ?_⟩
  refine ⟨fun none => tune_badValue hands five (.inl none), fun none => tune_badValue hands five (.inr (.inl none)),
    fun band hBand outside => tune_badValue hands five (.inr (.inr ⟨band, hBand, outside⟩)),
    fun input band hInput hBand inBand => ⟨fun scans => ?_, fun halts => ?_, tune_unitOff hands five hInput hBand inBand⟩⟩
  · exact tune_refused_by_state hands five hInput hBand inBand rfl rfl (by rw [scans]; rfl)
  · exact tune_refused_by_state hands five hInput hBand inBand rfl rfl (by rw [halts]; rfl)

/-! ### SCAN (R133, R134) -/

theorem answerScan_of_values (four : bodyOf r = [i, b, c, n]) (hInput : inputOf i = some input) (hBand : bandOf b = some band)
    (inBand : channelInBand band c.toNat = true) : answer .scan (takenOf r (.path p)) s =
      scanChecked p input band c.toNat (scanLast band c.toNat n.toNat) (takenOf r (.path p)) s := by
  simp only [answer, answerScan, takenOf_unit, takenOf_body, four, hInput, hBand, inBand, if_true]

theorem answerScan_of_badValue (four : bodyOf r = [i, b, c, n])
    (bad : inputOf i = none ∨ bandOf b = none ∨ ∃ band, bandOf b = some band ∧ channelInBand band c.toNat = false) :
    answer .scan (takenOf r (.path p)) s = refused .badValue s := by
  simp only [answer, answerScan, takenOf_unit, takenOf_body, four]
  split
  · rename_i input band hInput hBand
    obtain none | none | ⟨other, hOther, outside⟩ := bad
    · simp [none] at hInput
    · simp [none] at hBand
    · obtain rfl : other = band := Option.some.inj (hOther.symm.trans hBand)
      simp [outside]
  · rfl

theorem scanChecked_of_idle {t : Taken} {first last : Nat} (idle : (s.path p).state = .idle) :
    scanChecked p input band first last t s =
      if (s.input input).state = .off then refused .unitOff s
      else if t.conditionHolds (s.path p) = false then refused .conditionFalse s
      else accepted (u8 (last - first) ++ u8 last) (s.startScan p input band first last t.sender) := by
  rw [scanChecked, idle]
  rfl

theorem scan_badValue (hands : HandsOver s .scan r (.path p)) (four : bodyOf r = [i, b, c, n])
    (bad : inputOf i = none ∨ bandOf b = none ∨ ∃ band, bandOf b = some band ∧ channelInBand band c.toNat = false) :
    RefusedWith .scan s r .badValue :=
  refusedWith_of_units hands rfl rfl fun _ => answerScan_of_badValue four bad

theorem scan_refused_by_state {st : Status} (hands : HandsOver s .scan r (.path p)) (four : bodyOf r = [i, b, c, n])
    (hInput : inputOf i = some input) (hBand : bandOf b = some band) (inBand : channelInBand band c.toNat = true)
    (untaken : st.isTaken = false) (wanted : st.needsWanting = false) (refuses : scanRefusal (s.path p).state = some st) :
    RefusedWith .scan s r st :=
  refusedWith_of_units hands untaken wanted fun f => by
    have stands : scanRefusal ((s.modLink f).path p).state = some st := refuses
    rw [answerScan_of_values four hInput hBand inBand, scanChecked, stands]

theorem scan_unitOff (hands : HandsOver s .scan r (.path p)) (four : bodyOf r = [i, b, c, n]) (hInput : inputOf i = some input)
    (hBand : bandOf b = some band) (inBand : channelInBand band c.toNat = true) (idle : (s.path p).state = .idle)
    (off : (s.input input).state = .off) : RefusedWith .scan s r .unitOff :=
  refusedWith_of_units hands rfl rfl fun f => by
    rw [answerScan_of_values four hInput hBand inBand, scanChecked_of_idle (s := s.modLink f) idle]
    exact if_pos off

theorem scan_conditionFalse (hands : HandsOver s .scan r (.path p)) (four : bodyOf r = [i, b, c, n]) (hInput : inputOf i = some input)
    (hBand : bandOf b = some band) (inBand : channelInBand band c.toNat = true) (idle : (s.path p).state = .idle)
    (on : (s.input input).state ≠ .off) (fails : (takenOf r (.path p)).conditionHolds (s.path p) = false) :
    TakenWith .scan s r (.path p) .conditionFalse [] id :=
  takenWith_of_units hands rfl fun f => by
    rw [answerScan_of_values four hInput hBand inBand, scanChecked_of_idle (s := s.modLink f) idle]
    exact (if_neg on).trans (if_pos fails)

theorem scan_accepted (hands : HandsOver s .scan r (.path p)) (four : bodyOf r = [i, b, c, n]) (hInput : inputOf i = some input)
    (hBand : bandOf b = some band) (inBand : channelInBand band c.toNat = true) (idle : (s.path p).state = .idle)
    (on : (s.input input).state ≠ .off) (holds : (takenOf r (.path p)).conditionHolds (s.path p) = true) :
    let last := scanLast band c.toNat n.toNat
    TakenWith .scan s r (.path p) .accepted (u8 (last - c.toNat) ++ u8 last)
      (fun s => s.startScan p input band c.toNat last (takenOf r (.path p)).sender) :=
  takenWith_of_units hands rfl fun f => by
    rw [answerScan_of_values four hInput hBand inBand, scanChecked_of_idle (s := s.modLink f) idle]
    exact (if_neg on).trans (if_neg fun fails => Bool.false_ne_true (fails.symm.trans holds))

theorem scanRefusal_of_busy {st : PathState} (busy : st ∉ [.off, .idle, .scan]) : scanRefusal st = some .wrongState := by
  cases st <;> simp_all [scanRefusal]

/-- Settles O15: the SCAN taken and refused by state, its body values, and the codes they have. -/
theorem scanStartsInIdle : Obligations.ScanStartsInIdle := by
  refine ⟨fun s r p i b c n input band hands four hInput hBand inBand => ?_, fun s r p i b c n hands four => ?_,
    rfl, rfl, rfl, rfl, rfl, rfl, channelInBand_iii, channelInBand_uhf⟩
  · refine ⟨fun idle on holds => scan_accepted hands four hInput hBand inBand idle on holds, scan_unitOff hands four hInput hBand inBand,
      fun scans => ?_, fun busy => ?_⟩
    · exact scan_refused_by_state hands four hInput hBand inBand rfl rfl (by rw [scans]; rfl)
    · exact scan_refused_by_state hands four hInput hBand inBand rfl rfl (scanRefusal_of_busy busy)
  · refine ⟨fun more => scan_badValue hands four (.inl (inputOf_of_more more)),
      fun more => scan_badValue hands four (.inr (.inl (bandOf_of_more more))), fun iii outside => ?_, fun uhf outside => ?_⟩
    · have off : channelInBand .iii c.toNat = false := by
        rw [Bool.eq_false_iff, Ne, channelInBand_iii]
        omega
      exact scan_badValue hands four (.inr (.inr ⟨.iii, iii ▸ rfl, off⟩))
    · have off : channelInBand .uhf c.toNat = false := by
        rw [Bool.eq_false_iff, Ne, channelInBand_uhf]
        omega
      exact scan_badValue hands four (.inr (.inr ⟨.uhf, uhf ▸ rfl, off⟩))

/-! ### STOP (R29, R144) -/

theorem answerStop_of_condition (holds : (takenOf r (.path p)).conditionHolds (s.path p) = true) :
    answer .stop (takenOf r (.path p)) s = stopByState p s := if_pos holds

theorem stop_refused {st : Status} (hands : HandsOver s .stop r (.path p))
    (holds : (takenOf r (.path p)).conditionHolds (s.path p) = true) (untaken : st.isTaken = false) (wanted : st.needsWanting = false)
    (refuses : ∀ f : Link → Link, stopByState p (s.modLink f) = refused st (s.modLink f)) : RefusedWith .stop s r st :=
  refusedWith_of_units hands untaken wanted fun f => (answerStop_of_condition (s := s.modLink f) holds).trans (refuses f)

theorem stop_taken {effect : State → State} (hands : HandsOver s .stop r (.path p))
    (holds : (takenOf r (.path p)).conditionHolds (s.path p) = true)
    (does : ∀ f : Link → Link, stopByState p (s.modLink f) = done [] (effect (s.modLink f))) :
    TakenWith .stop s r (.path p) .ok [] effect :=
  takenWith_of_units hands rfl fun f => (answerStop_of_condition (s := s.modLink f) holds).trans (does f)

theorem stop_conditionFalse (hands : HandsOver s .stop r (.path p)) (fails : (takenOf r (.path p)).conditionHolds (s.path p) = false) :
    TakenWith .stop s r (.path p) .conditionFalse [] id :=
  takenWith_of_units hands rfl fun _ => if_neg fun holds => Bool.false_ne_true (fails.symm.trans holds)

theorem stopByState_of_attached {s : State} {p : PathId} (attached : (s.path p).state.attached = true) :
    stopByState p s = done [] (s.stopPath p) := by
  unfold stopByState
  cases state : (s.path p).state <;> first | rfl | simp [state, PathState.attached] at attached

theorem stopScan_of_none (none : (s.path p).scan = none) : s.stopScan p = s := by
  simp only [State.stopScan, none]

theorem stopScan_of_some {record : ScanRecord} (scans : (s.path p).scan = some record) :
    s.stopScan p = (s.raise (.path p) (.scanDone { record with stopped := true })).modPath p (fun x => { x with scan := none }) := by
  simp only [State.stopScan, scans]

/-- Settles O14: STOP by the state of the path, the attached states, and how a scan stops. -/
theorem stopEndsAcquisition : Obligations.StopEndsAcquisition := by
  refine ⟨fun s r p hands holds => ⟨fun idle => ?_, fun attached => ?_, fun fault => ?_, fun halt => ?_⟩,
    fun st => by cases st <;> decide, fun _ _ => stopScan_of_none, fun _ _ _ => stopScan_of_some⟩
  · refine stop_taken hands holds fun f => ?_
    have stands : ((s.modLink f).path p).state = .idle := idle
    rw [stopByState, stands]
    rfl
  · exact stop_taken hands holds fun f => stopByState_of_attached (s := s.modLink f) attached
  · refine stop_refused hands holds rfl rfl fun f => ?_
    have stands : ((s.modLink f).path p).state = .fault := fault
    rw [stopByState, stands]
  · refine stop_refused hands holds rfl rfl fun f => ?_
    have stands : ((s.modLink f).path p).state = .halt := halt
    rw [stopByState, stands]

end

/-! ### Conditions (R91, R163, R165, R171) -/

theorem half2_toNat (hi lo : Byte) : (half2 hi lo).toNat = 256 * hi.toNat + lo.toNat := by
  rw [half2, BitVec.toNat_append, ← Nat.shiftLeft_add_eq_or_of_lt lo.isLt, Nat.shiftLeft_eq, Nat.mul_comm]

theorem conditionHolds_of_some {t : Taken} {c : Condition} (present : t.condition = some c) (x : Path) :
    (c.code = 1 → (t.conditionHolds x = true ↔ x.state ≠ .locked)) ∧
    (c.code = 2 → (t.conditionHolds x = true ↔
      x.quality = .none ∨ x.quality = .invalid ∨ ∃ n, x.quality = .mer n ∧ n < c.value.toNat)) ∧
    (c.code = 3 → (t.conditionHolds x = true ↔ x.tracker.spill = true)) ∧
    (c.code = 4 → (t.conditionHolds x = true ↔ x.state = .idle)) := by
  refine ⟨fun code => ?_, fun code => ?_, fun code => ?_, fun code => ?_⟩
  · simp [Taken.conditionHolds, present, code]
  · cases quality : x.quality <;> simp [Taken.conditionHolds, present, code, quality]
  · simp [Taken.conditionHolds, present, code]
  · simp [Taken.conditionHolds, present, code]

theorem conditional_iff (v : Verb) : v.conditional = true ↔ v ∈ [.tune, .stop, .scan] := by cases v <;> decide

theorem knownCondition_iff (c : Condition) : knownCondition c = true ↔ ¬(c.code = 0 ∨ 4 < c.code.toNat) := by
  have zero : c.code = 0 ↔ c.code.toNat = 0 := by rw [← BitVec.toNat_inj]; rfl
  rw [zero, knownCondition, Bool.and_eq_true, decide_eq_true_eq, decide_eq_true_eq]
  omega

theorem badConditionForm_iff (v : Verb) (r : Request) : badConditionForm v r = true ↔
    ∃ c, conditionOf r = some c ∧ (v ∉ [.tune, .stop, .scan] ∨ c.code = 0 ∨ 4 < c.code.toNat) := by
  unfold badConditionForm
  cases conditionOf r with
  | none => simp
  | some c =>
    rw [← conditional_iff]
    simp only [Bool.or_eq_true, Bool.not_eq_true', ← Bool.not_eq_true, knownCondition_iff, not_not, Option.some.injEq, exists_eq_left']

theorem conditionOf_bodyOf_absent {r : Request} (clear : r.flags.getLsbD 1 = false) : conditionOf r = none ∧ bodyOf r = r.tail := by
  have none : hasCondition r = false := clear
  simp [conditionOf, bodyOf, none]

theorem conditionOf_bodyOf_present {r : Request} {code hi lo : Byte} {body : List Byte} (set : r.flags.getLsbD 1 = true)
    (tail : r.tail = code :: hi :: lo :: body) : conditionOf r = some { code, value := half2 hi lo } ∧ bodyOf r = body := by
  have some : hasCondition r = true := set
  simp [conditionOf, bodyOf, some, tail]

theorem tooShortForCondition_iff (r : Request) : tooShortForCondition r = true ↔ r.flags.getLsbD 1 = true ∧ r.tail.length < 3 := by
  simp [tooShortForCondition, hasCondition]

/-- Settles O16: the three verbs with a condition that fails, what each condition says, and where a request carries one. -/
theorem falseConditionChangesNothing : Obligations.FalseConditionChangesNothing := by
  refine ⟨fun s r p fails => ⟨fun hands => stop_conditionFalse hands fails, fun i b c hi lo input band hands five hInput hBand inBand
      ready on => tune_conditionFalse hands five hInput hBand inBand ready on fails, fun i b c n input band hands four hInput hBand inBand
      idle on => scan_conditionFalse hands four hInput hBand inBand idle on fails⟩,
    fun t x => ⟨fun absent => by simp [Taken.conditionHolds, absent], fun c present => conditionHolds_of_some present x⟩,
    fun r u => ⟨rfl, rfl, rfl, rfl⟩, fun r => conditionOf_bodyOf_absent, fun r code hi lo body set tail => ?_,
    tooShortForCondition_iff, badConditionForm_iff⟩
  obtain ⟨condition, body⟩ := conditionOf_bodyOf_present set tail
  exact ⟨condition, body, half2_toNat hi lo⟩

end Sys2Proof.Machine
end

section
/-! ACK_FAULT (R152), the counters (R154 to R159) and MASK_NOTICES (R172): O17 to O19. -/

namespace Sys2Proof.Machine

open Sys2Proof

/-! ### ACK_FAULT (R152) -/

theorem clearHold_of_saved {s : State} {p : PathId} {saved : SavedEnables} (holds : (s.path p).fault.saved = some saved) :
    s.clearHold p = (s.modPath p (fun x => { x with fault := { x.fault with hold := false, primary := none, saved := none } })).setEnables
      (.path p) (restoreThree (s.link.enables.get (.path p)) saved) := by
  simp only [State.clearHold, holds]

theorem restoreThree_getLsbD (e : Half) (v : SavedEnables) (k : Nat) : (restoreThree e v).getLsbD k =
    if k = 0 then v.pathState else if k = 4 then v.spill else if k = 7 then v.counterWrap else e.getLsbD k := by
  simp only [restoreThree, setClass_getLsbD, NoticeClass.code]
  split_ifs <;> simp_all

/-- Settles O17: ACK_FAULT by the path's state and hold, and the classes that return to their saved values. -/
theorem ackFaultClearsTheHold : Obligations.AckFaultClearsTheHold := by
  refine ⟨fun s r p hands => ⟨fun halt => ?_, fun noHalt noFault noHold => ?_, fun saved holds => ⟨fun fault => ?_,
    fun noHalt noFault hold => ?_⟩⟩, restoreThree_getLsbD⟩
  · exact refusedWith_of_units hands rfl rfl fun _ => if_pos halt
  · have unheld : ¬(s.path p).fault.hold = true := by simpa using noHold
    exact takenWith_of_units hands rfl fun _ => (if_neg noHalt).trans ((if_neg noFault).trans (if_neg unheld))
  · have noHalt : (s.path p).state ≠ .halt := by
      rw [fault]
      decide
    refine takenWith_of_units hands rfl fun f => (if_neg noHalt).trans ((if_pos fault).trans ?_)
    rw [clearHold_of_saved (s := s.modLink f) holds]
    rfl
  · refine takenWith_of_units hands rfl fun f => (if_neg noHalt).trans ((if_neg noFault).trans ((if_pos hold).trans ?_))
    rw [clearHold_of_saved (s := s.modLink f) holds]
    rfl

/-! ### Reading back a counter (R154) -/

theorem PathCounters.get_set (t : PathCounters) (c : PathCounter) (x : Counter) : (t.set c x).get c = x := by cases c <;> rfl

theorem PathCounters.get_set_ne (t : PathCounters) {c d : PathCounter} (x : Counter) (other : d ≠ c) : (t.set c x).get d = t.get d := by
  cases c <;> cases d <;> first | rfl | exact absurd rfl other

theorem counter_setCounter (s : State) (c : CounterId) (x : Counter) : (s.setCounter c x).counter c = x := by
  cases c <;> simp [State.setCounter, State.counter, PathCounters.get_set]

/-- What an input's update leaves of it stands at every input. -/
theorem Inputs.get_set_of_same {α : Type} (t : Inputs) (i j : InputId) (x : Input) (view : Input → α) (same : view x = view (t.get i)) :
    view ((t.set i x).get j) = view (t.get j) := by
  by_cases self : j = i
  · rw [self, Inputs.get_set, same]
  · rw [Inputs.get_set_ne t x self]

/-- What an output's update leaves of it stands at every output. -/
theorem Outputs.get_set_of_same {α : Type} (t : Outputs) (o n : OutputId) (x : Output) (view : Output → α)
    (same : view x = view (t.get o)) : view ((t.set o x).get n) = view (t.get n) := by
  by_cases self : n = o
  · rw [self, Outputs.get_set, same]
  · rw [Outputs.get_set_ne t x self]

theorem counter_setCounter_ne (s : State) {c d : CounterId} (x : Counter) (other : d ≠ c) :
    (s.setCounter c x).counter d = s.counter d := by
  cases c with
  | path p c =>
    cases d with
    | path q d =>
      by_cases same : q = p
      · subst same
        have otherCounter : d ≠ c := fun h => other (h ▸ rfl)
        simp [State.setCounter, State.counter, PathCounters.get_set_ne _ _ otherCounter]
      · simp [State.setCounter, State.counter, Paths.get_set_ne _ _ same]
    | _ => rfl
  | clip i =>
    cases d with
    | clip j => exact congrArg Input.clip (Inputs.get_set_ne _ _ fun h => other (h ▸ rfl))
    | impulse j => exact Inputs.get_set_of_same _ i j _ Input.impulses rfl
    | _ => rfl
  | impulse i =>
    cases d with
    | clip j => exact Inputs.get_set_of_same _ i j _ Input.clip rfl
    | impulse j => exact congrArg Input.impulses (Inputs.get_set_ne _ _ fun h => other (h ▸ rfl))
    | _ => rfl
  | fill o =>
    cases d with
    | fill n => exact congrArg Output.fill (Outputs.get_set_ne _ _ fun h => other (h ▸ rfl))
    | dropped n => exact Outputs.get_set_of_same _ o n _ Output.dropped rfl
    | _ => rfl
  | dropped o =>
    cases d with
    | fill n => exact Outputs.get_set_of_same _ o n _ Output.fill rfl
    | dropped n => exact congrArg Output.dropped (Outputs.get_set_ne _ _ fun h => other (h ▸ rfl))
    | _ => rfl

theorem setCounter_others (s : State) (c : CounterId) (x : Counter) :
    (s.setCounter c x).link = s.link ∧ (s.setCounter c x).store = s.store ∧ (s.setCounter c x).device = s.device := by
  cases c <;> exact ⟨rfl, rfl, rfl⟩

/-! ### A step of a counter (R155, R156) -/

theorem count_of_below {s : State} {c : CounterId} (below : (s.counter c).value ≠ 0xFFFFFFFF) :
    s.count c = s.setCounter c { s.counter c with value := (s.counter c).value + 1 } := by
  have noWrap : ((s.counter c).value == 0xFFFFFFFF) = false := beq_eq_false_iff_ne.mpr below
  simp only [State.count, Counter.step, noWrap, Bool.false_and, Bool.or_false, Bool.false_eq_true, if_false]

theorem count_of_wrap {s : State} {c : CounterId} (full : (s.counter c).value = 0xFFFFFFFF) (clear : (s.counter c).overflow = false) :
    s.count c = (s.setCounter c ⟨0, true⟩).raise c.unit (.counterWrap c.number) := by
  have stepped : (s.counter c).step = ⟨0, true⟩ := by
    rw [Counter.step, full]
    simp
  simp [State.count, stepped, full, clear]

theorem count_of_wrap_again {s : State} {c : CounterId} (full : (s.counter c).value = 0xFFFFFFFF)
    (set : (s.counter c).overflow = true) : s.count c = s.setCounter c ⟨0, true⟩ := by
  have stepped : (s.counter c).step = ⟨0, true⟩ := by
    rw [Counter.step, full]
    simp
  simp [State.count, stepped, set]

theorem inhibited_iff (x : Path) : x.inhibited = true ↔
    (x.state ∈ [.search, .symbol, .frame, .pageWait, .fill] ∧ x.config.inhibitAcquiring = true) ∨
      (x.state = .holdover ∧ x.config.inhibitHoldover = true) := by
  unfold Path.inhibited
  cases x.state <;> simp

theorem countPath_of_inhibited {s : State} {p : PathId} {c : PathCounter} (inhibited : (s.path p).inhibited = true) :
    s.countPath p c = s := if_pos inhibited

theorem countPath_of_free {s : State} {p : PathId} {c : PathCounter} (free : (s.path p).inhibited = false) :
    s.countPath p c = s.count (.path p c) := if_neg (Bool.eq_false_iff.mp free)

/-! ### The wrap summary (R159) -/

theorem mem_allCounters (c : CounterId) : c ∈ countingUnits.flatMap unitCounters := by
  rw [List.mem_flatMap]
  refine ⟨c.unit, ?_, ?_⟩
  · cases c with
    | path p c => cases p <;> simp [countingUnits, CounterId.unit]
    | clip i => cases i <;> simp [countingUnits, CounterId.unit]
    | impulse i => cases i <;> simp [countingUnits, CounterId.unit]
    | fill o => cases o <;> simp [countingUnits, CounterId.unit]
    | dropped o => cases o <;> simp [countingUnits, CounterId.unit]
  · cases c with
    | path p c => cases c <;> simp [CounterId.unit, unitCounters]
    | _ => simp [CounterId.unit, unitCounters]

theorem mem_wrapSummary (s : State) (c : CounterId) : c ∈ s.wrapSummary ↔ (s.counter c).overflow = true := by
  rw [State.wrapSummary, List.mem_filter]
  exact and_iff_right (mem_allCounters c)

theorem allCounters_ordered : (countingUnits.flatMap unitCounters).Pairwise (fun a b =>
    a.unit.number < b.unit.number ∨ (a.unit.number = b.unit.number ∧ a.number < b.number)) := by decide

theorem wrapSummary_ordered (s : State) : s.wrapSummary.Pairwise (fun a b =>
    a.unit.number < b.unit.number ∨ (a.unit.number = b.unit.number ∧ a.number < b.number)) := allCounters_ordered.filter _

/-! ### CLEAR_COUNTERS (R157, R158) -/

theorem unitCounters_numbers (u : UnitId) :
    (unitCounters u).map CounterId.number = List.range (unitCounters u).length ∧ ∀ c ∈ unitCounters u, c.unit = u := by
  cases u <;> simp [unitCounters, CounterId.number, CounterId.unit, PathCounter.number, List.range_succ]

/-- Positions in a list that numbers its members are their numbers. -/
theorem filter_zipIdx_of_numbered {α : Type} (number : α → Nat) (keep : Nat → Bool) :
    ∀ (l : List α) (n : Nat), l.map number = List.range' n l.length →
      ((l.zipIdx n).filter (fun e => keep e.2)).map Prod.fst = l.filter (fun a => keep (number a))
  | [], _, _ => rfl
  | a :: l, n, numbered => by
    rw [List.map_cons, List.length_cons, List.range'_succ, List.cons.injEq] at numbered
    obtain ⟨first, rest⟩ := numbered
    have ih := filter_zipIdx_of_numbered number keep l (n + 1) rest
    rw [List.zipIdx_cons, List.filter_cons, List.filter_cons, first]
    split_ifs
    · rw [List.map_cons, ih]
    · exact ih

theorem selection_table (u : UnitId) (mask : Byte) :
    (mask = 0 → selection (unitCounters u) mask = some (unitCounters u)) ∧
    (2 ^ (unitCounters u).length ≤ mask.toNat → selection (unitCounters u) mask = none) ∧
    (mask ≠ 0 → mask.toNat < 2 ^ (unitCounters u).length →
      selection (unitCounters u) mask = some ((unitCounters u).filter (fun c => mask.getLsbD c.number))) := by
  refine ⟨fun zero => if_pos zero, fun beyond => ?_, fun notZero within => ?_⟩
  · have notZero : mask ≠ 0 := by
      rintro rfl
      exact absurd beyond (Nat.not_le.mpr (by simp))
    rw [selection, if_neg notZero, if_pos beyond]
  · rw [selection, if_neg notZero, if_neg (Nat.not_le.mpr within), filter_zipIdx_of_numbered CounterId.number]
    rw [(unitCounters_numbers u).1, List.range_eq_range']

theorem clearCounters_refused {s : State} {r : Request} {u : UnitId} {mask : Byte} (hands : HandsOver s .clearCounters r u)
    (one : bodyOf r = [mask]) (none : selection (unitCounters u) mask = none) : RefusedWith .clearCounters s r .badValue :=
  refusedWith_of_units hands rfl rfl fun f => by
    simp only [answer, answerClearCounters, takenOf_unit, takenOf_body, one, none]

theorem hidesValues_iff (r : Request) (u : UnitId) (s : State) :
    (takenOf r u).hidesValues s = true ↔ r.port = .sp ∧ s.device.grants.getLsbD 6 = false := by
  simp [Taken.hidesValues, Access.heldBy, countersViewBit]

theorem clearCounters_taken {s : State} {r : Request} {u : UnitId} {mask : Byte} (hands : HandsOver s .clearCounters r u)
    (one : bodyOf r = [mask]) (cs : List CounterId) (selects : selection (unitCounters u) mask = some cs) :
    TakenWith .clearCounters s r u .ok
      (if r.port = .sp ∧ s.device.grants.getLsbD 6 = false then cs.flatMap (fun c => u8 c.number) else cs.flatMap s.counterFields)
      (fun s => cs.foldl (fun s c => s.setCounter c ⟨0, false⟩) s) :=
  takenWith_of_units hands rfl fun f => by
    simp only [answer, answerClearCounters, takenOf_unit, takenOf_body, one, selects, done, hidesValues_iff, counterFields_modLink]
    rfl

/-- Settles O18: steps, wraps and inhibits, the wrap summary, the counters of each unit, and CLEAR_COUNTERS. -/
theorem countersStepWrapAndClear : Obligations.CountersStepWrapAndClear := by
  refine ⟨fun _ _ => count_of_below, fun _ _ => count_of_wrap, fun _ _ => count_of_wrap_again,
    fun s c x => ⟨counter_setCounter s c x, fun d other => counter_setCounter_ne s x other, setCounter_others s c x⟩,
    fun s p c => ⟨fun inhibited => countPath_of_inhibited ((inhibited_iff _).mpr inhibited), fun acquiring holdover => ?_⟩,
    mem_wrapSummary, wrapSummary_ordered, fun _ => rfl, fun _ => rfl, fun _ => rfl, unitCounters_numbers,
    fun s r u mask hands one => ⟨clearCounters_refused hands one, clearCounters_taken hands one⟩, selection_table⟩
  refine countPath_of_free (Bool.eq_false_iff.mpr fun inhibited => ?_)
  obtain ⟨state, set⟩ | ⟨state, set⟩ := (inhibited_iff _).mp inhibited
  · exact Bool.false_ne_true ((acquiring state).symm.trans set)
  · exact Bool.false_ne_true ((holdover state).symm.trans set)

/-! ### MASK_NOTICES (R172) -/

theorem maskOperation_of_more {op : Byte} (more : 2 < op.toNat) : maskOperation op = none := by
  unfold maskOperation
  split <;> simp_all

theorem answer_maskNotices {t : Taken} {op hi lo : Byte} {f : Half → Half → Half} (three : t.body = [op, hi, lo])
    (operation : maskOperation op = some f) (s : State) : answer .maskNotices t s =
      done (half (s.link.enables.get t.unit)) (s.setEnables t.unit (f (s.link.enables.get t.unit) (half2 hi lo))) := by
  simp only [answer, answerMaskNotices, three, operation]

theorem maskNotices_taken {s : State} {r : Request} {u : UnitId} {op hi lo : Byte} {f : Half → Half → Half}
    (hands : HandsOver s .maskNotices r u) (three : bodyOf r = [op, hi, lo]) (operation : maskOperation op = some f) :
    TakenWith .maskNotices s r u .ok (half (s.link.enables.get u))
      (fun s => s.setEnables u (f (s.link.enables.get u) (half2 hi lo))) := by
  have answers := answer_maskNotices (t := takenOf r u) three operation
  refine takenWith_of_answer hands rfl ?_ fun x => ?_
  · rw [answers]
    rfl
  · rw [answers]
    rfl

/-- Settles O19: the three operations and the codes that name none. -/
theorem maskNoticesCombines : Obligations.MaskNoticesCombines := by
  intro s r u op hi lo hands three
  refine ⟨fun more => refusedWith_of_units hands rfl rfl fun f => ?_, fun zero => ?_, fun one => ?_, fun two => ?_⟩
  · simp only [answer, answerMaskNotices, takenOf_body, three, maskOperation_of_more more]
  · subst zero
    exact maskNotices_taken (f := maskAnd) hands three rfl
  · subst one
    exact maskNotices_taken (f := maskOr) hands three rfl
  · subst two
    exact maskNotices_taken (f := maskXor) hands three rfl

end Sys2Proof.Machine
end

section
/-! BIND, SET_UNITS and RESET_UNIT (R1, R3, R19, R24, R25, R39, R45, R120, R121, R132, R182): O20, O21 and O25. -/

namespace Sys2Proof.Machine

open Sys2Proof

/-! ### An output that takes a rate, or none (R120, R121) -/

theorem modOutput_modOutput (s : State) (o : OutputId) (f g : Output → Output) :
    (s.modOutput o f).modOutput o g = s.modOutput o (fun x => g (f x)) := by
  simp [State.modOutput]

theorem modOutput_output (s : State) (o : OutputId) (f : Output → Output) : (s.modOutput o f).output o = f (s.output o) :=
  Outputs.get_set _ _ _

theorem beginFirstSlot_of_line {s : State} {o : OutputId} (busy : (s.output o).line.isSome = true) : s.beginFirstSlot o = s := by
  rw [State.beginFirstSlot, if_neg]
  simpa [Option.isSome_iff_ne_none] using busy

/-- The first slot at once: the queue is empty, so a null packet (R120, R126). -/
theorem beginFirstSlot_of_empty {s : State} {o : OutputId} (free : (s.output o).line = none) (empty : (s.output o).queue = []) :
    s.beginFirstSlot o = (s.modOutput o (fun x => { x with line := some { packet := nullPacket, rate := x.rate } })).count (.fill o) := by
  rw [State.beginFirstSlot, if_pos (by rw [free]; rfl), startSlot_null s o empty]

theorem beginOutput_of_rate (s : State) (o : OutputId) (rate : Word) :
    s.beginOutput o (some rate) =
      (s.modOutput o (fun x => { x with state := .running, queue := [], rate := some rate })).beginFirstSlot o := rfl

theorem beginOutput_of_none (s : State) (o : OutputId) :
    s.beginOutput o none = s.modOutput o (fun x => { x with state := .silent, queue := [], rate := none }) := rfl

theorem beginOutput_of_line {s : State} {o : OutputId} (rate : Word) (busy : (s.output o).line.isSome = true) :
    s.beginOutput o (some rate) = s.modOutput o (fun x => { x with state := .running, queue := [], rate := some rate }) := by
  rw [beginOutput_of_rate, beginFirstSlot_of_line]
  rw [modOutput_output]
  exact busy

theorem beginOutput_of_free {s : State} {o : OutputId} (rate : Word) (free : (s.output o).line = none) :
    s.beginOutput o (some rate) = (s.modOutput o (fun x => { x with
      state := .running, queue := [], rate := some rate, line := some { packet := nullPacket, rate := some rate } })).count (.fill o) := by
  rw [beginOutput_of_rate, beginFirstSlot_of_empty, modOutput_modOutput]
  · rw [modOutput_output]
    exact free
  · rw [modOutput_output]

/-! ### BIND (R121) -/

theorem bindingOf_table (b : Byte) :
    bindingOf b = (if b.toNat < 4 then [some (some .p0), some (some .p1), some (some .p2), some (some .p3)].getD b.toNat none
      else if b = 255 then some none else none) := by
  have last : b = 255 ↔ b.toNat = 255 := by rw [← BitVec.toNat_inj]; rfl
  simp only [last]
  unfold bindingOf
  generalize b.toNat = n
  split <;> try rfl
  rename_i not₀ not₁ not₂ not₃ not₂₅₅
  have few : ¬n < 4 := fun below => by interval_cases n <;> simp_all
  rw [if_neg few, if_neg not₂₅₅]

/-- A counted slot leaves what BIND reports of an output. -/
theorem bindingFields_count (s : State) (o : OutputId) :
    bindingFields ((s.count (.fill o)).output o) = bindingFields (s.output o) := by
  have stands (x : Counter) : bindingFields ((s.setCounter (.fill o) x).output o) = bindingFields (s.output o) := by
    rw [State.setCounter, modOutput_output]
    rfl
  unfold State.count
  split_ifs
  · exact stands _
  · exact stands _

section
variable {s : State} {r : Request} {o : OutputId} {b : Byte}

theorem answer_bind {t : Taken} {bound : Option PathId} (unit : t.unit = .output o) (one : t.body = [b]) (names : bindingOf b = some bound)
    (s : State) : answer .bind t s =
      done (bindingFields ((if (s.output o).bound = bound then s else s.rebind o bound).output o))
        (if (s.output o).bound = bound then s else s.rebind o bound) := by
  simp only [answer, answerBind, unit, one, names]

theorem bind_badValue (hands : HandsOver s .bind r (.output o)) (one : bodyOf r = [b]) (none : bindingOf b = none) :
    RefusedWith .bind s r .badValue :=
  refusedWith_of_units hands rfl rfl fun f => by
    simp only [answer, answerBind, takenOf_unit, takenOf_body, one, none]

theorem bind_same {bound : Option PathId} (hands : HandsOver s .bind r (.output o)) (one : bodyOf r = [b])
    (names : bindingOf b = some bound) (held : (s.output o).bound = bound) :
    TakenWith .bind s r (.output o) .ok (bindingFields (s.output o)) id :=
  takenWith_of_units hands rfl fun f => by
    have stands : ((s.modLink f).output o).bound = bound := held
    rw [answer_bind (takenOf_unit r _) one names, if_pos stands]
    rfl

/-- Another binding: from what the rebind does, whatever the link block holds. -/
theorem bind_other {bound : Option PathId} {effect : State → State} {x : Output} (hands : HandsOver s .bind r (.output o))
    (one : bodyOf r = [b]) (names : bindingOf b = some bound) (other : (s.output o).bound ≠ bound)
    (rebinds : ∀ f : Link → Link, (s.modLink f).rebind o bound = effect (s.modLink f))
    (reports : ∀ f : Link → Link, bindingFields ((effect (s.modLink f)).output o) = bindingFields x) :
    TakenWith .bind s r (.output o) .ok (bindingFields x) effect :=
  takenWith_of_units hands rfl fun f => by
    have differs : ((s.modLink f).output o).bound ≠ bound := other
    rw [answer_bind (takenOf_unit r _) one names, if_neg differs, rebinds f, reports f]
    rfl

/-- A binding without a rate (R121): the output is SILENT. -/
theorem bind_silent {bound : Option PathId} (hands : HandsOver s .bind r (.output o)) (one : bodyOf r = [b])
    (names : bindingOf b = some bound) (other : (s.output o).bound ≠ bound) (rate : s.boundRate bound = none) :
    let x : Output := { s.output o with bound, queue := [], rate := none, state := .silent }
    TakenWith .bind s r (.output o) .ok (bindingFields x) (fun s => s.modOutput o (fun _ => x)) := by
  refine bind_other hands one names other (fun f => ?_) fun f => ?_
  · have stands : (s.modLink f).boundRate bound = none := by cases bound <;> exact rate
    rw [State.rebind, stands, beginOutput_of_none, modOutput_modOutput]
    rfl
  · rw [modOutput_output]

theorem bind_running {p : PathId} {rate : Word} (hands : HandsOver s .bind r (.output o)) (one : bodyOf r = [b])
    (names : bindingOf b = some (some p)) (other : (s.output o).bound ≠ some p) (latched : (s.path p).latched = some rate)
    (busy : (s.output o).line.isSome = true) :
    let x : Output := { s.output o with bound := some p, queue := [], rate := some rate, state := .running }
    TakenWith .bind s r (.output o) .ok (bindingFields x) (fun s => s.modOutput o (fun _ => x)) := by
  refine bind_other hands one names other (fun f => ?_) fun f => ?_
  · have stands : (s.modLink f).boundRate (some p) = some rate := latched
    rw [State.rebind, stands, beginOutput_of_line rate (by rw [modOutput_output]; exact busy), modOutput_modOutput]
    rfl
  · rw [modOutput_output]

theorem bind_first_slot {p : PathId} {rate : Word} (hands : HandsOver s .bind r (.output o)) (one : bodyOf r = [b])
    (names : bindingOf b = some (some p)) (other : (s.output o).bound ≠ some p) (latched : (s.path p).latched = some rate)
    (free : (s.output o).line = none) :
    let x : Output := { s.output o with bound := some p, queue := [], rate := some rate, state := .running }
    TakenWith .bind s r (.output o) .ok (bindingFields x) (fun s => (s.modOutput o (fun _ => { x with
      line := some { packet := ⟨0x47, 0x1F, 0xFF, 0x10, List.replicate 184 0xFF⟩, rate := some rate } })).count (.fill o)) := by
  refine bind_other hands one names other (fun f => ?_) fun f => ?_
  · have stands : (s.modLink f).boundRate (some p) = some rate := latched
    rw [State.rebind, stands, beginOutput_of_free rate (by rw [modOutput_output]; exact free), modOutput_modOutput]
    rfl
  · rw [bindingFields_count, modOutput_output]
    rfl

end

/-- Settles O20: the codes that name no binding, the binding held, and another one by the rate it brings. -/
theorem bindSetsTheBinding : Obligations.BindSetsTheBinding := by
  intro s r o b hands one
  refine ⟨bind_badValue hands one, fun bound => bind_same hands one, fun names other => bind_silent hands one names other rfl,
    fun p names other => ⟨fun latched => bind_silent hands one names other latched,
      fun rate latched => ⟨bind_running hands one names other latched, bind_first_slot hands one names other latched⟩⟩,
    bindingOf_table b, fun _ => rfl⟩

/-! ### SET_UNITS (R182) -/

/-- A disable or a reset leaves the mast supply as a taken MAST item 0 does (R3 step 2, R15). -/
theorem mastOff_eq_setMast (s : State) (i : InputId) : s.mastOff i = s.setMast i false := by
  have mast : ((s.modInput i (fun x => { x with mastItem := false })).input i).mast = (s.input i).mast := by simp
  simp only [State.mastOff, State.setMast, mast]
  cases (s.input i).mast <;> rfl

theorem enableOutput_of_off {s : State} {o : OutputId} (off : (s.output o).state = .off) :
    s.enableOutput o = s.beginOutput o (s.boundRate (s.output o).bound) := if_pos off

theorem enableOutput_silent {s : State} {o : OutputId} (off : (s.output o).state = .off)
    (rate : s.boundRate (s.output o).bound = none) :
    s.enableOutput o = s.modOutput o (fun x => { x with state := .silent, queue := [], rate := none }) := by
  rw [enableOutput_of_off off, rate, beginOutput_of_none]

theorem enableOutput_running {s : State} {o : OutputId} (off : (s.output o).state = .off) (p : PathId) (rate : Word)
    (bound : (s.output o).bound = some p) (latched : (s.path p).latched = some rate) :
    ((s.output o).line = none → s.enableOutput o = (s.modOutput o (fun x => { x with
      state := .running, queue := [], rate := some rate,
      line := some { packet := ⟨0x47, 0x1F, 0xFF, 0x10, List.replicate 184 0xFF⟩, rate := some rate } })).count (.fill o)) ∧
    ((s.output o).line.isSome = true →
      s.enableOutput o = s.modOutput o (fun x => { x with state := .running, queue := [], rate := some rate })) := by
  have stands : s.boundRate (s.output o).bound = some rate := by
    rw [bound]
    exact latched
  rw [enableOutput_of_off off, stands]
  exact ⟨beginOutput_of_free rate, beginOutput_of_line rate⟩

theorem setUnits_taken {s : State} {r : Request} {hi lo : Byte} (hands : HandsOver s .setUnits r .device) (two : bodyOf r = [hi, lo]) :
    (half2 hi lo &&& 0xE001 ≠ 0 → RefusedWith .setUnits s r .badValue) ∧
    (half2 hi lo &&& 0xE001 = 0 → TakenWith .setUnits s r .device .ok (half (s.device.unitEnable ||| 0x1002))
      (fun s =>
        let set := half2 hi lo &&& 0x0FFC
        ((s.modDevice (fun d => { d with unitEnable := set })).powerDown set).powerUp set)) := by
  refine ⟨fun forbidden => refusedWith_of_units hands rfl rfl fun f => ?_, fun allowed => takenWith_of_units hands rfl fun f => ?_⟩
  · simp only [answer, answerSetUnits, takenOf_body, two]
    exact if_pos forbidden
  · simp only [answer, answerSetUnits, takenOf_body, two]
    exact if_neg (not_not.mpr allowed)

/-- Settles O21: the request, the order of the units, and each unit's disable and enable. -/
theorem setUnitsPowersTheUnits : Obligations.SetUnitsPowersTheUnits := by
  refine ⟨fun s r hi lo => setUnits_taken, fun _ _ => rfl, fun _ _ => rfl, fun s i off => ⟨if_pos off, if_pos off⟩,
    fun s i on => ⟨if_neg on, if_neg on⟩, fun _ _ _ => rfl, fun s i => ?_, fun s p off => ⟨if_pos off, if_pos off⟩,
    fun s p on => ⟨if_neg on, if_neg on⟩, fun s o off => ⟨if_pos off, enableOutput_running off, fun unbound => ?_, fun p bound latched => ?_⟩,
    fun s o on => ⟨if_neg on, if_neg on⟩⟩
  · obtain ⟨-, -, staysOff, turnsOff⟩ := setMast_table s i
    rw [mastOff_eq_setMast]
    exact ⟨staysOff, turnsOff⟩
  · exact enableOutput_silent off (by rw [unbound]; rfl)
  · exact enableOutput_silent off (by rw [bound]; exact latched)

/-! ### RESET_UNIT (R19, R45, R132) -/

/-- Settles O25: the three kinds of unit that are reset. -/
theorem resetUnitRestoresDefaults : Obligations.ResetUnitRestoresDefaults := fun _ _ =>
  ⟨fun _ hands => takenWith_of_units hands rfl fun _ => rfl, fun _ hands => takenWith_of_units hands rfl fun _ => rfl,
    fun _ hands => takenWith_of_units hands rfl fun _ => rfl⟩

end Sys2Proof.Machine
end

section
/-! The device unit's settings and the reference clock (R142, R160, R183, R184): O22, O24 and O30. -/

namespace Sys2Proof.Machine

open Sys2Proof

/-! ### SET_LINK and CLEAR_SCAN (R142, R160) -/

theorem speedOf_of_more {b : Byte} (more : 3 < b.toNat) : speedOf b = none := by
  unfold speedOf
  split <;> simp_all

theorem storedSpeed_append (l : Link) (q : PendingSpeed) :
    ({ l with speedPending := l.speedPending ++ [q] } : Link).storedSpeed = q.speed := by
  simp [Link.storedSpeed]

theorem answer_setLink {t : Taken} {b : Byte} {speed : LinkSpeed} (one : t.body = [b]) (names : speedOf b = some speed) (s : State) :
    answer .setLink t s = done (u8 (s.link.storeSpeed speed t.wanted).storedSpeed.code) (s.modLink (fun l => l.storeSpeed speed t.wanted)) := by
  simp only [answer, answerSetLink, one, names, State.modLink_link]

theorem storeSpeed_inForce {l : Link} {speed : LinkSpeed} (inForce : speed = l.cpSpeed) (own : Bool) : l.storeSpeed speed own = l :=
  if_pos inForce

theorem storeSpeed_other {l : Link} {speed : LinkSpeed} (other : speed ≠ l.cpSpeed) (own : Bool) : l.storeSpeed speed own =
    { l with speedPending := l.speedPending ++ [{ speed, ahead := l.replies.cp.length + (if own then 1 else 0) }] } := if_neg other

section
variable {s : State} {r : Request} {b : Byte} {speed : LinkSpeed}

theorem setLink_inForce (hands : HandsOver s .setLink r .device) (one : bodyOf r = [b]) (names : speedOf b = some speed)
    (inForce : speed = s.link.cpSpeed) : TakenWith .setLink s r .device .ok (u8 s.link.storedSpeed.code) id := by
  have answers := answer_setLink (t := takenOf r .device) one names
  have keeps (l : Link) (same : l.cpSpeed = s.link.cpSpeed) (own : Bool) : l.storeSpeed speed own = l :=
    storeSpeed_inForce (inForce.trans same.symm) own
  refine takenWith_of_answer hands rfl ?_ fun x => ?_
  · rw [answers, State.modLink, keeps (s.hunt r.port).link rfl]
    rfl
  · rw [answers, State.modLink, keeps ((s.hunt r.port).occupyCp x).link rfl]
    rfl

theorem setLink_other (hands : HandsOver s .setLink r .device) (one : bodyOf r = [b]) (names : speedOf b = some speed)
    (other : speed ≠ s.link.cpSpeed) :
    TakenWith .setLink s r .device .ok (u8 speed.code) (fun s => s.modLink (fun l => { l with speedPending := l.speedPending ++
      [{ speed, ahead := l.replies.cp.length + (if replyWanted r then 1 else 0) }] })) := by
  have answers := answer_setLink (t := takenOf r .device) one names
  have stores (l : Link) (same : l.cpSpeed = s.link.cpSpeed) (own : Bool) := storeSpeed_other (l := l) (fun is => other (is.trans same)) own
  refine takenWith_of_answer hands rfl ?_ fun x => ?_
  · rw [answers, State.modLink, stores (s.hunt r.port).link rfl, storedSpeed_append]
    rfl
  · rw [answers, State.modLink, stores ((s.hunt r.port).occupyCp x).link rfl]
    rfl

theorem clearScan_taken {effect : State → State} (hands : HandsOver s .clearScan r .device)
    (does : ∀ f : Link → Link, (s.modLink f).modDevice Device.clearScan = effect (s.modLink f)) :
    TakenWith .clearScan s r .device .ok [] effect :=
  takenWith_of_units hands rfl fun f => by
    rw [← does f]
    rfl

end

/-- Settles O22: SET_LINK by the speed it names, CLEAR_SCAN by the list it finds. -/
theorem deviceSettingsAreStored : Obligations.DeviceSettingsAreStored := by
  refine fun s r => ⟨fun b hands one more => refusedWith_of_units hands rfl rfl fun f => ?_, fun b speed => setLink_inForce,
    fun b speed => setLink_other, fun hands empty => clearScan_taken hands fun f => ?_, fun hands entries => clearScan_taken hands fun f => ?_⟩
  · simp only [answer, answerSetLink, takenOf_body, one, speedOf_of_more more]
  · have stands : Device.clearScan (s.modLink f).device = (s.modLink f).device := if_pos (List.isEmpty_iff.mpr empty)
    rw [State.modDevice, stands]
    rfl
  · have clears : Device.clearScan (s.modLink f).device =
        { (s.modLink f).device with scanList := [], scanNumber := (s.modLink f).device.scanNumber + 1 } :=
      if_neg fun empty => entries (List.isEmpty_iff.mp empty)
    rw [State.modDevice, clears]
    rfl

/-! ### The paths after a change of a window at each of them (R11, R184) -/

/-- One change at every path of a list without repeats. -/
theorem foldl_modPath_path (f : Path → Path) : ∀ (l : List PathId) (s : State) (q : PathId), l.Nodup →
    (l.foldl (fun s p => s.modPath p f) s).path q = if q ∈ l then f (s.path q) else s.path q
  | [], _, _, _ => by simp
  | p :: l, s, q, nodup => by
    obtain ⟨fresh, rest⟩ := List.nodup_cons.mp nodup
    rw [List.foldl_cons, foldl_modPath_path f l _ q rest]
    by_cases self : q = p
    · subst self
      rw [if_neg fresh, if_pos List.mem_cons_self, modPath_path_self]
    · simp only [modPath_path_ne s f self, List.mem_cons, self, false_or]

theorem holding_iff (st : PathState) : st.holding = true ↔ st = .fill ∨ st = .locked ∨ st = .holdover := by cases st <;> simp [PathState.holding]

theorem windowEvent_eq (x : Path) : x.windowEvent = if x.state = .fill ∨ x.state = .locked ∨ x.state = .holdover
    then { x with window := x.window.map (fun _ => freshWindow x.config) } else x := by
  simp only [Path.windowEvent, holding_iff]
  rfl

theorem allPaths_nodup : allPaths.Nodup := by decide

theorem mem_allPaths (p : PathId) : p ∈ allPaths := by cases p <;> decide

theorem referenceStep_path (s : State) (p : PathId) : (s.referenceStep).path p =
    if (s.path p).state = .fill ∨ (s.path p).state = .locked ∨ (s.path p).state = .holdover
      then { s.path p with window := (s.path p).window.map (fun _ => freshWindow (s.path p).config) } else s.path p := by
  rw [State.referenceStep, foldl_modPath_path _ _ _ _ allPaths_nodup, if_pos (mem_allPaths p), windowEvent_eq]

theorem referenceStep_device (s : State) : s.referenceStep.device = s.device :=
  (Quiet.foldl (fun s p => modPath_quiet s p _) _ s).device

/-! ### The reference clock (R183) -/

theorem moveReference_reference (s : State) (new : RefState) (step : Bool) : (s.moveReference new step).device.reference = new := by
  unfold State.moveReference
  cases step
  · rfl
  · exact congrArg Device.reference (referenceStep_device _)

theorem moveReference_of_no_step (s : State) (new : RefState) : s.moveReference new false =
    (s.modDevice (fun d => { d with reference := new, switchTimer := if new = .switching then some 10 else none })).raise .device
      (.reference s.device.reference new false) := rfl

theorem moveReference_of_step (s : State) (new : RefState) : s.moveReference new true =
    ((s.modDevice (fun d => { d with reference := new, switchTimer := if new = .switching then some 10 else none })).raise .device
      (.reference s.device.reference new true)).referenceStep := rfl

/-! ### SET_REFERENCE -/

section
variable {s : State} {r : Request} {b : Byte}

theorem answer_setReference {t : Taken} {wantsExternal : Bool} (one : t.body = [b]) (names : twoValued (b.setWidth 16) = some wantsExternal)
    (settled : s.device.reference ≠ .switching) : answer .setReference t s =
      done (u8 (if wantsExternal then s.wantExternal else s.wantInternal).device.reference.code)
        (if wantsExternal then s.wantExternal else s.wantInternal) := by
  simp only [answer, answerSetReference, one, names, if_neg settled]

theorem setReference_taken {effect : State → State} {wantsExternal : Bool} {code : Nat} (hands : HandsOver s .setReference r .device)
    (one : bodyOf r = [b]) (names : twoValued (b.setWidth 16) = some wantsExternal) (settled : s.device.reference ≠ .switching)
    (does : ∀ f : Link → Link,
      (if wantsExternal then (s.modLink f).wantExternal else (s.modLink f).wantInternal) = effect (s.modLink f))
    (ends : ∀ f : Link → Link, (effect (s.modLink f)).device.reference.code = code) :
    TakenWith .setReference s r .device .ok (u8 code) effect :=
  takenWith_of_units hands rfl fun f => by
    have stands : (s.modLink f).device.reference ≠ .switching := settled
    rw [answer_setReference one names stands, does f, ends f]
    rfl

theorem wantInternal_of_internal (h : s.device.reference = .internal) : s.wantInternal = s := by
  simp only [State.wantInternal, h]

theorem wantInternal_of_external (h : s.device.reference = .external) : s.wantInternal = s.moveReference .internal true := by
  simp only [State.wantInternal, h]

theorem wantInternal_of_fallback (h : s.device.reference = .fallback) : s.wantInternal = s.moveReference .internal false := by
  simp only [State.wantInternal, h]

theorem wantExternal_of_internal (h : s.device.reference = .internal) :
    s.wantExternal = if s.device.extPresent then s.moveReference .switching false else s.moveReference .fallback false := by
  simp only [State.wantExternal, h]

theorem wantExternal_of_external (h : s.device.reference = .external) : s.wantExternal = s := by
  simp only [State.wantExternal, h]

theorem wantExternal_of_fallback (h : s.device.reference = .fallback) : s.wantExternal = s := by
  simp only [State.wantExternal, h]

end

/-- Settles O24: the two sources by the state of the reference clock. -/
theorem setReferenceFollowsTheTable : Obligations.SetReferenceFollowsTheTable := by
  intro s r b hands one
  have byte (n : Nat) (is : b = BitVec.ofNat 8 n) : twoValued (b.setWidth 16) = twoValued ((BitVec.ofNat 8 n).setWidth 16) := by rw [is]
  refine ⟨fun more => refusedWith_of_units hands rfl rfl fun f => ?_, fun few switching => refusedWith_of_units hands rfl rfl fun f => ?_,
    fun zero at₀ => ?_, fun zero at₀ => ?_, fun zero at₀ => ?_, fun one' at₀ present => ?_, fun one' at₀ absent => ?_, fun one' at₀ => ?_,
    fun one' at₀ => ?_⟩
  · have more' : 1 < (b.setWidth 16).toNat := by
      rw [BitVec.toNat_setWidth]
      omega
    simp only [answer, answerSetReference, takenOf_body, one, twoValued_of_more more']
  · have stands : (s.modLink f).device.reference = .switching := switching
    have named : ∃ wants, twoValued (b.setWidth 16) = some wants := by
      obtain zero | one : b = 0 ∨ b = 1 := by
        rw [← BitVec.toNat_inj, ← BitVec.toNat_inj (y := (1 : Byte))]
        change b.toNat = 0 ∨ b.toNat = 1
        omega
      · exact ⟨false, byte 0 zero⟩
      · exact ⟨true, byte 1 one⟩
    obtain ⟨wants, named⟩ := named
    simp only [answer, answerSetReference, takenOf_body, one, named, stands, if_true]
  · exact setReference_taken hands one (byte 0 zero) (by rw [at₀]; decide) (fun f => wantInternal_of_internal (s := s.modLink f) at₀)
      fun f => congrArg RefState.code at₀
  · exact setReference_taken hands one (byte 0 zero) (by rw [at₀]; decide) (fun f => wantInternal_of_external (s := s.modLink f) at₀)
      fun f => congrArg RefState.code (moveReference_reference _ _ _)
  · exact setReference_taken hands one (byte 0 zero) (by rw [at₀]; decide) (fun f => wantInternal_of_fallback (s := s.modLink f) at₀)
      fun f => congrArg RefState.code (moveReference_reference _ _ _)
  · exact setReference_taken hands one (byte 1 one') (by rw [at₀]; decide) (fun f => (wantExternal_of_internal (s := s.modLink f) at₀).trans (if_pos present))
      fun f => congrArg RefState.code (moveReference_reference _ _ _)
  · exact setReference_taken hands one (byte 1 one') (by rw [at₀]; decide) (fun f => (wantExternal_of_internal (s := s.modLink f) at₀).trans
      (if_neg (Bool.eq_false_iff.mp absent)))
      fun f => congrArg RefState.code (moveReference_reference _ _ _)
  · exact setReference_taken hands one (byte 1 one') (by rw [at₀]; decide) (fun f => wantExternal_of_external (s := s.modLink f) at₀)
      fun f => congrArg RefState.code at₀
  · exact setReference_taken hands one (byte 1 one') (by rw [at₀]; decide) (fun f => wantExternal_of_fallback (s := s.modLink f) at₀)
      fun f => congrArg RefState.code at₀

/-! ### The events of the reference clock -/

theorem exec_externalReturns {s : State} (released : s.resetHeld = false) : exec .externalReturns s = .next (externalReturned s) :=
  live_running released _

theorem exec_externalLost {s : State} (released : s.resetHeld = false) : exec .externalLost s = .next (externalGone s) :=
  live_running released _

theorem exec_switchTimerExpiry {s : State} (released : s.resetHeld = false) : exec .switchTimerExpiry s = .next (switchExpired s) :=
  live_running released _

/-- Settles O30: each event by the state of the reference clock, and the windows a reference step restarts. -/
theorem referenceEventsFollowTheTable : Obligations.ReferenceEventsFollowTheTable := by
  intro s released present absent
  rw [exec_externalReturns released, exec_externalLost released, exec_switchTimerExpiry released]
  refine ⟨fun settled => ?_, fun fallback => ?_, fun settled => ?_, fun switching => ?_, fun external => ?_,
    fun switching runs => ?_, referenceStep_path s⟩
  · cases state : s.device.reference with
    | fallback => exact absurd state settled
    | _ => simp only [externalReturned, state, present]
  · have moves : externalReturned s = present.moveReference .switching false := by simp only [externalReturned, fallback, present]
    have found : present.device.reference = .fallback := fallback
    rw [moves, moveReference_of_no_step, found]
    rfl
  · obtain internal | fallback := settled
    · simp only [externalGone, internal, absent]
    · simp only [externalGone, fallback, absent]
  · have moves : externalGone s = absent.moveReference .fallback false := by simp only [externalGone, switching, absent]
    have found : absent.device.reference = .switching := switching
    rw [moves, moveReference_of_no_step, found]
    rfl
  · have moves : externalGone s = absent.moveReference .fallback true := by simp only [externalGone, external, absent]
    have found : absent.device.reference = .external := external
    rw [moves, moveReference_of_step, found]
    rfl
  · have moves : switchExpired s = s.moveReference .external true := if_pos ⟨switching, runs⟩
    rw [moves, moveReference_of_step, switching]
    rfl

end Sys2Proof.Machine
end

section
/-! Transmitters, the CP speed and raised notices (R160, R162 to R164, R168, R169, R172, R175 to R178): O26, O27 and O29. -/

namespace Sys2Proof.Machine

open Sys2Proof

/-! ### A frame sent whole (R169, R185) -/

/-- The reset of the part follows the frame (R185). -/
def TxFrame.thenReset : TxFrame → Bool
  | .reply r => r.thenReset
  | .notice _ => false

theorem TxFrame.thenReset_eq_false {f : TxFrame} (quiet : ∀ r, f = .reply r → r.thenReset = false) : f.thenReset = false := by
  cases f with
  | reply r => exact quiet r rfl
  | notice n => rfl

theorem Link.frameEnd_of_some {l : Link} {p : Port} {x : Sending} (sends : l.tx.get p = some x) :
    l.frameEnd p = ({ l with tx := l.tx.set p none, resetDue := l.resetDue || x.frame.thenReset }).pump p := by
  unfold Link.frameEnd
  rw [sends]
  obtain ⟨frame, speed⟩ := x
  cases frame <;> rfl

/-- A frame that no reset follows leaves an idle transmitter, which then begins its next frame. -/
theorem Link.frameEnd_of_quiet {l : Link} {p : Port} {x : Sending} (sends : l.tx.get p = some x)
    (quiet : ∀ r, x.frame = .reply r → r.thenReset = false) : l.frameEnd p = ({ l with tx := l.tx.set p none }).pump p := by
  rw [Link.frameEnd_of_some sends, TxFrame.thenReset_eq_false quiet, Bool.or_false]

theorem exec_transmitFrameEnd (p : Port) {s : State} (released : s.resetHeld = false) :
    exec (.transmitFrameEnd p) s = .next (s.modLink (fun l => l.frameEnd p)) := live_running released _

theorem modLink_congr {s : State} {f g : Link → Link} (same : f s.link = g s.link) : s.modLink f = s.modLink g := by
  rw [State.modLink, same]
  rfl

theorem heldAtBoundary_iff (l : Link) :
    l.heldAtBoundary = true ↔ l.resetDue = true ∨ ∃ q rest, l.speedPending = q :: rest ∧ q.ahead = 0 := by
  unfold Link.heldAtBoundary
  cases l.speedPending <;> simp

theorem heldAtBoundary_of_clear {l : Link} (noReset : l.resetDue = false) (noSpeed : l.speedPending = []) :
    l.heldAtBoundary = false := by
  simp [Link.heldAtBoundary, noReset, noSpeed]

section
variable {s : State} {x : Sending} (released : s.resetHeld = false)
include released

/-- The CP transmitter's next frame after one that no reset follows, with no boundary in the way. -/
theorem frameEnd_cp (sends : s.link.tx.cp = some x) (quiet : ∀ r, x.frame = .reply r → r.thenReset = false)
    (noReset : s.link.resetDue = false) (noSpeed : s.link.speedPending = []) :
    (∀ r rest, s.link.replies.cp = r :: rest → exec (.transmitFrameEnd .cp) s =
      .next (s.modLink (fun l => { l with replies := { l.replies with cp := rest },
                                          tx := { l.tx with cp := some { frame := .reply r, speed := l.cpSpeed } } }))) ∧
    (∀ n rest, s.link.replies.cp = [] → s.link.notices = n :: rest → exec (.transmitFrameEnd .cp) s =
      .next (s.modLink (fun l => { l with
        notices := rest, overrun := false,
        tx := { l.tx with cp := some { frame := .notice { n with overrun := l.overrun }, speed := l.cpSpeed } } }))) ∧
    (s.link.replies.cp = [] → s.link.notices = [] → exec (.transmitFrameEnd .cp) s =
      .next (s.modLink (fun l => { l with tx := { l.tx with cp := none } }))) := by
  have ends : s.link.frameEnd .cp = ({ s.link with tx := s.link.tx.set .cp none }).pumpCp := Link.frameEnd_of_quiet (p := .cp) sends quiet
  have free : ({ s.link with tx := s.link.tx.set .cp none } : Link).heldAtBoundary = false := heldAtBoundary_of_clear noReset noSpeed
  rw [exec_transmitFrameEnd _ released]
  refine ⟨fun r rest waiting => ?_, fun n rest noReply waiting => ?_, fun noReply noNotice => ?_⟩
  · refine congrArg _ (modLink_congr ?_)
    rw [ends, Link.pumpCp_of_reply rfl free waiting]
    simp only [noSpeed, List.map_nil]
    rfl
  · refine congrArg _ (modLink_congr ?_)
    rw [ends, Link.pumpCp_of_notice rfl free noReply waiting]
    rfl
  · refine congrArg _ (modLink_congr ?_)
    rw [ends, Link.pumpCp_of_nothing (l := { s.link with tx := s.link.tx.set .cp none }) noReply noNotice]
    rfl

theorem frameEnd_sp (sends : s.link.tx.sp = some x) (quiet : ∀ r, x.frame = .reply r → r.thenReset = false) :
    (∀ r rest, s.link.replies.sp = r :: rest → exec (.transmitFrameEnd .sp) s =
      .next (s.modLink (fun l => { l with replies := { l.replies with sp := rest },
                                          tx := { l.tx with sp := some { frame := .reply r, speed := .b57600 } } }))) ∧
    (s.link.replies.sp = [] → exec (.transmitFrameEnd .sp) s = .next (s.modLink (fun l => { l with tx := { l.tx with sp := none } }))) := by
  have ends : s.link.frameEnd .sp = ({ s.link with tx := s.link.tx.set .sp none }).pumpSp := Link.frameEnd_of_quiet (p := .sp) sends quiet
  rw [exec_transmitFrameEnd _ released]
  refine ⟨fun r rest waiting => ?_, fun noReply => ?_⟩
  · refine congrArg _ (modLink_congr ?_)
    rw [ends]
    simp [Link.pumpSp, waiting, Ports.set, Link.send, Link.portSpeed]
  · refine congrArg _ (modLink_congr ?_)
    rw [ends]
    simp [Link.pumpSp, noReply, Ports.set]

/-- The reply of a taken RESET_DEVICE: the reset is due and holds the transmitter. -/
theorem frameEnd_thenReset {r : Reply} (sends : s.link.tx.cp = some x) (reply : x.frame = .reply r) (resets : r.thenReset = true) :
    exec (.transmitFrameEnd .cp) s = .next (s.modLink (fun l => { l with tx := { l.tx with cp := none }, resetDue := true })) := by
  rw [exec_transmitFrameEnd _ released]
  refine congrArg _ (modLink_congr ?_)
  have due : (s.link.resetDue || x.frame.thenReset) = true := by
    rw [reply, TxFrame.thenReset, resets, Bool.or_true]
  rw [Link.frameEnd_of_some (p := .cp) sends, due]
  exact Link.pumpCp_of_stays (.inr rfl)

end

/-! ### The bytes of a frame (R162, R163, 9.3) -/

theorem crcBit_eq : crcBit =
    fun (crc : Half) bit => if crc.getLsbD 15 = bit then crc <<< 1 else (crc <<< 1) ^^^ 0x1021 := by
  funext crc bit
  simp [crcBit]

theorem crc16_eq_bits (bytes : List Byte) : crc16 bytes =
    (bytes.flatMap (fun b => [7, 6, 5, 4, 3, 2, 1, 0].map (fun k => b.getLsbD k))).foldl
      (fun (crc : Half) bit => if crc.getLsbD 15 = bit then crc <<< 1 else (crc <<< 1) ^^^ 0x1021) 0xFFFF := by
  rw [List.foldl_flatMap, ← crcBit_eq]
  rfl

/-- A frame from its counted bytes, their number known. -/
theorem frameOf_of_length {counted : List Byte} {n : Nat} (length : counted.length = n) :
    frameOf counted = [0x5A] ++ (u8 n ++ counted) ++ half (crc16 (u8 n ++ counted)) := by
  subst length
  rw [frameOf, List.append_assoc]
  rfl

theorem reply_bytes (r : Reply) : let spanned := u8 (3 + r.body.length) ++ [r.unit, r.tag] ++ u8 r.status.code ++ r.body
    (TxFrame.reply r).bytes = [0x5A] ++ spanned ++ half (crc16 spanned) := by
  have length : ([r.unit, r.tag] ++ u8 r.status.code ++ r.body).length = 3 + r.body.length := by
    simp [u8]
    omega
  have bytes : (TxFrame.reply r).bytes = frameOf ([r.unit, r.tag] ++ u8 r.status.code ++ r.body) := rfl
  rw [bytes, frameOf_of_length length]
  simp only [List.append_assoc]

theorem notice_bytes (n : NoticeRecord) :
    let body := u8 n.detail.cls.code ++ u8 n.repeats ++ flagByte n.overrun ++ word n.timestamp ++ n.detail.bytes
    let spanned := u8 (3 + body.length) ++ u8 n.unit.number ++ [0, 0x80] ++ body
    (TxFrame.notice n).bytes = [0x5A] ++ spanned ++ half (crc16 spanned) := by
  intro body
  have length : (u8 n.unit.number ++ [0, 0x80] ++ body).length = 3 + body.length := by
    rw [List.length_append]
    rfl
  have bytes : (TxFrame.notice n).bytes = frameOf (u8 n.unit.number ++ [0, 0x80] ++ body) := by
    simp only [TxFrame.bytes, NoticeRecord.bytes, body, List.append_assoc]
    rfl
  rw [bytes, frameOf_of_length length]
  simp only [List.append_assoc]

theorem field_bytes (n : Nat) (h : Half) (w : Word) (i : Int) (b : Bool) : u8 n = [BitVec.ofNat 8 n] ∧ u16 n = u8 (n / 256) ++ u8 n ∧
    half h = u16 h.toNat ∧ word w = u16 (w.toNat / 65536) ++ u16 w.toNat ∧ i16 i = half (BitVec.ofInt 16 i) ∧
    flagByte b = u8 (if b then 1 else 0) := by
  refine ⟨rfl, rfl, rfl, ?_, rfl, rfl⟩
  simp only [word, u32, u16, Nat.div_div_eq_div_mul]
  rfl

theorem spill_bytes (flag : Bool) (width guard : Nat) (anchor : Option Int) (estimate : Half) :
    (NoticeDetail.spill flag width guard anchor estimate).bytes = flagByte flag ++ u16 width ++ u16 guard ++ (match anchor with
      | some a => i16 a
      | none => [0, 0]) ++ half estimate := by
  cases anchor <;> rfl

theorem serialLine_of (l : Link) (p : Port) : (l.tx.get p = none → l.serialLine p = []) ∧
    (∀ x, l.tx.get p = some x → l.serialLine p = x.frame.bytes.flatMap serialByte) :=
  ⟨fun idle => by simp only [Link.serialLine, idle], fun x sends => by simp only [Link.serialLine, sends, Sending.serialBits]⟩

/-- Settles O26: the ends of frames, the bytes of the frames, and their bits on the line. -/
theorem frameEndTakesReplyFirst : Obligations.FrameEndTakesReplyFirst := by
  refine ⟨fun s x released => ⟨frameEnd_cp released, frameEnd_sp released, fun r => frameEnd_thenReset released⟩,
    reply_bytes, notice_bytes, crc16_eq_bits, field_bytes, ⟨rfl, rfl, rfl, rfl⟩, fun _ _ _ => rfl, fun _ _ _ => rfl,
    fun _ _ _ _ _ _ => rfl, fun _ _ _ _ _ _ => rfl, spill_bytes, fun _ _ _ _ _ => rfl, fun _ _ _ => rfl, fun _ => rfl, fun _ => rfl,
    fun _ _ _ => rfl, fun _ => rfl, serialLine_of, rfl⟩

/-! ### The change of CP speed (R160) -/

theorem exec_linkSpeedChange {s : State} (released : s.resetHeld = false) :
    exec .linkSpeedChange s = .next (s.modLink Link.changeSpeed) := live_running released _

theorem changeSpeed_of_boundary {l : Link} {q : PendingSpeed} {rest : List PendingSpeed} (pending : l.speedPending = q :: rest)
    (idle : l.tx.cp = none) (first : q.ahead = 0) :
    l.changeSpeed = ({ l with cpSpeed := q.speed, speedPending := rest, rx := { l.rx with cp := .hunt } }).pumpCp := by
  simp [Link.changeSpeed, pending, idle, first]

theorem changeSpeed_of_early {l : Link}
    (early : l.tx.cp ≠ none ∨ l.speedPending = [] ∨ ∃ q rest, l.speedPending = q :: rest ∧ q.ahead ≠ 0) : l.changeSpeed = l := by
  unfold Link.changeSpeed
  split
  · rfl
  · rename_i q rest pending
    refine if_neg ?_
    rintro ⟨idle, first⟩
    obtain busy | none | ⟨q', rest', pending', notFirst⟩ := early
    · exact busy (Option.isNone_iff_eq_none.mp idle)
    · simp [none] at pending
    · obtain ⟨rfl, rfl⟩ := List.cons.inj (pending.symm.trans pending')
      exact notFirst first

theorem pumpCp_of_held_or_empty (l : Link)
    (stays : l.tx.cp ≠ none ∨ l.heldAtBoundary = true ∨ (l.replies.cp = [] ∧ l.notices = [])) : l.pumpCp = l := by
  obtain busy | held | ⟨noReply, noNotice⟩ := stays
  · exact Link.pumpCp_of_stays (.inl busy)
  · exact Link.pumpCp_of_stays (.inr held)
  · exact Link.pumpCp_of_nothing noReply noNotice

theorem frameEnd_with_speed {s : State} {x : Sending} {q : PendingSpeed} {rest : List PendingSpeed} (released : s.resetHeld = false)
    (sends : s.link.tx.cp = some x) (quiet : ∀ r, x.frame = .reply r → r.thenReset = false) (noReset : s.link.resetDue = false)
    (pending : s.link.speedPending = q :: rest) :
    (q.ahead = 0 → exec (.transmitFrameEnd .cp) s = .next (s.modLink (fun l => { l with tx := { l.tx with cp := none } }))) ∧
    (∀ r waiting, q.ahead ≠ 0 → s.link.replies.cp = r :: waiting → exec (.transmitFrameEnd .cp) s =
      .next (s.modLink (fun l => { l with
        replies := { l.replies with cp := waiting }, tx := { l.tx with cp := some { frame := .reply r, speed := l.cpSpeed } },
        speedPending := l.speedPending.map (fun q => { q with ahead := q.ahead - 1 }) }))) := by
  have ends : s.link.frameEnd .cp = ({ s.link with tx := s.link.tx.set .cp none }).pumpCp := Link.frameEnd_of_quiet (p := .cp) sends quiet
  rw [exec_transmitFrameEnd _ released]
  refine ⟨fun first => congrArg _ (modLink_congr ?_), fun r waiting notFirst replies => congrArg _ (modLink_congr ?_)⟩
  · rw [ends]
    exact Link.pumpCp_of_stays (.inr ((heldAtBoundary_iff _).mpr (.inr ⟨q, rest, pending, first⟩)))
  · have free : ({ s.link with tx := s.link.tx.set .cp none } : Link).heldAtBoundary = false := by
      simp [Link.heldAtBoundary, noReset, pending, notFirst]
    rw [ends, Link.pumpCp_of_reply rfl free replies]
    rfl

/-- Settles O27: the change at its boundary and before it, what holds the transmitter, and how replies bring the boundary nearer. -/
theorem linkSpeedChangesAtItsBoundary : Obligations.LinkSpeedChangesAtItsBoundary := by
  refine ⟨fun s q rest released pending idle first => ?_, fun s released early => ?_, heldAtBoundary_iff, pumpCp_of_held_or_empty,
    fun l r waiting idle free replies => ?_, fun s x q rest released => frameEnd_with_speed released⟩
  · rw [exec_linkSpeedChange released]
    exact congrArg _ (modLink_congr (changeSpeed_of_boundary pending idle first))
  · rw [exec_linkSpeedChange released, State.modLink, changeSpeed_of_early early]
  · exact Link.pumpCp_of_reply idle free replies

/-! ### A raised notice (R175, R176) -/

theorem enabled_iff (l : Link) (u : UnitId) (c : NoticeClass) :
    l.enabled u c = true ↔ c = .pathFault ∨ c = .doubleFault ∨ (l.enables.get u).getLsbD c.code = true := by
  cases c <;> simp [Link.enabled, NoticeClass.maskable]

theorem raise_of_disabled {s : State} {u : UnitId} {d : NoticeDetail} (disabled : s.link.enabled u d.cls = false) : s.raise u d = s := by
  have same : s.link.raise s.device.uptime u d = s.link := if_neg (Bool.eq_false_iff.mp disabled)
  rw [State.raise, same]

theorem raise_of_enabled {s : State} {u : UnitId} {d : NoticeDetail} (enabled : s.link.enabled u d.cls = true) :
    s.raise u d = s.modLink (fun l =>
      (l.offer { unit := u, detail := d, repeats := 0, overrun := false, timestamp := s.device.uptime }).pumpCp) := by
  have same : s.link.raise s.device.uptime u d =
      (s.link.offer { unit := u, detail := d, repeats := 0, overrun := false, timestamp := s.device.uptime }).pumpCp := if_pos enabled
  rw [State.raise, same]
  rfl

/-- Settles O29: a class disabled and enabled, a record merged and joined. -/
theorem raisedNoticeMergesOrJoins : Obligations.RaisedNoticeMergesOrJoins := by
  intro s u d
  refine ⟨fun noFault noDouble clear => raise_of_disabled ?_, fun enabled => raise_of_enabled ((enabled_iff _ _ _).mpr enabled),
    fun l n unsent => Link.offer_of_unsent unsent, fun l n fresh room => Link.offer_of_room fresh room⟩
  rw [Bool.eq_false_iff, Ne, enabled_iff]
  rintro (fault | double | set)
  · exact noFault fault
  · exact noDouble double
  · exact Bool.false_ne_true (clear.symm.trans set)

end Sys2Proof.Machine
end

section
/-! The inputs' own events (R2, R5 to R8, R10 to R17): O31 to O33. -/

namespace Sys2Proof.Machine

open Sys2Proof

/-! ### Calibration and gain periods (R2, R6, R7, R8, R10, R11, R12) -/

theorem exec_calibrationTimerExpiry (i : InputId) {s : State} (released : s.resetHeld = false) :
    exec (.calibrationTimerExpiry i) s = .next (calibrated i s) := live_running released _

theorem exec_gainPeriodClose (i : InputId) (occupancy : Byte) (count : Nat) {s : State} (released : s.resetHeld = false) :
    exec (.gainPeriodClose i occupancy count) s = .next (gainPeriodClosed i occupancy count s) := live_running released _

theorem gainRule_eq (s : State) (i : InputId) (occupancy clips : Nat) : gainRule s i occupancy clips =
    if (s.input i).gainMode = .auto then autoGain (s.input i) occupancy clips (s.anyAcquiring i) else (s.input i).gain := by
  unfold gainRule
  cases (s.input i).gainMode <;> rfl

theorem gainPeriodClosed_of_running {s : State} {i : InputId} (running : (s.input i).state = .running) (occupancy : Byte) (count : Nat) :
    let x := s.input i
    let clips := min 65535 count
    let gain := if x.gainMode = .auto then autoGain x occupancy.toNat clips (s.anyAcquiring i) else x.gain
    let stored := (s.modInput i (fun x => { x with occupancy := occupancy.toNat, clipCount := clips })).setGain i gain
    let judged := stored.setLevel i (x.gain == 63 && decide (occupancy.toNat < x.low)) (x.gain == 0 && decide (x.clipLimit < clips))
    gainPeriodClosed i occupancy count s = if x.clipLimit < clips then judged.count (.clip i) else judged := by
  intro x clips gain stored judged
  rw [gainPeriodClosed, if_pos running]
  simp only [gainRule_eq]
  rfl

/-- The AUTO rule, row by row (R7). -/
theorem autoGain_table (x : Input) (occupancy clips : Nat) (acquiring : Bool) :
    (x.clipLimit < clips → autoGain x occupancy clips acquiring = x.gain - 2) ∧
    (clips ≤ x.clipLimit → acquiring = true → autoGain x occupancy clips acquiring = x.gain) ∧
    (clips ≤ x.clipLimit → acquiring = false → x.high < occupancy → autoGain x occupancy clips acquiring = x.gain - 1) ∧
    (clips ≤ x.clipLimit → acquiring = false → occupancy ≤ x.high → occupancy < x.low →
      autoGain x occupancy clips acquiring = min 63 (x.gain + 1)) ∧
    (clips ≤ x.clipLimit → acquiring = false → x.low ≤ occupancy → occupancy ≤ x.high →
      autoGain x occupancy clips acquiring = x.gain) := by
  unfold autoGain
  refine ⟨fun excess => if_pos excess, fun within held => ?_, fun within free above => ?_, fun within free high low => ?_,
    fun within free low high => ?_⟩
  · rw [if_neg (Nat.not_lt.mpr within), if_pos held]
  · rw [if_neg (Nat.not_lt.mpr within), if_neg (Bool.eq_false_iff.mp free), if_pos above]
  · rw [if_neg (Nat.not_lt.mpr within), if_neg (Bool.eq_false_iff.mp free), if_neg (Nat.not_lt.mpr high), if_pos low]
  · rw [if_neg (Nat.not_lt.mpr within), if_neg (Bool.eq_false_iff.mp free), if_neg (Nat.not_lt.mpr high), if_neg (Nat.not_lt.mpr low)]

theorem mem_attached (s : State) (i : InputId) (p : PathId) : p ∈ s.attached i ↔ (s.path p).attachedTo = some i := by
  rw [State.attached, List.mem_filter, beq_iff_eq]
  exact and_iff_right (mem_allPaths p)

theorem acquiring_iff (st : PathState) : st.acquiring = true ↔ st ∈ [.search, .symbol, .frame, .scan] := by cases st <;> decide

theorem anyAcquiring_iff (s : State) (i : InputId) : s.anyAcquiring i = true ↔
    ∃ p, (s.path p).attachedTo = some i ∧ (s.path p).state ∈ [.search, .symbol, .frame, .scan] := by
  simp only [State.anyAcquiring, List.any_eq_true, mem_attached, acquiring_iff]

/-- The gain-change event reaches the attached paths in FILL, LOCKED or HOLDOVER (R11). -/
theorem gainChanged_path (s : State) (i : InputId) (p : PathId) : (s.gainChanged i).path p =
    if (s.path p).attachedTo = some i ∧ (s.path p).state ∈ [.fill, .locked, .holdover]
      then { s.path p with window := (s.path p).window.map (fun _ => freshWindow (s.path p).config) } else s.path p := by
  have nodup : (s.attached i).Nodup := allPaths_nodup.filter _
  rw [State.gainChanged, foldl_modPath_path _ _ _ _ nodup, windowEvent_eq]
  simp only [mem_attached, List.mem_cons, List.not_mem_nil, or_false]
  split_ifs <;> simp_all

theorem foldl_modPath_others (f : Path → Path) (l : List PathId) (s : State) :
    (l.foldl (fun s p => s.modPath p f) s).outputs = s.outputs ∧ (l.foldl (fun s p => s.modPath p f) s).store = s.store ∧
      (l.foldl (fun s p => s.modPath p f) s).link = s.link := by
  induction l generalizing s with
  | nil => exact ⟨rfl, rfl, rfl⟩
  | cons p l ih => exact ih _

theorem setGain_same (s : State) (i : InputId) : s.setGain i (s.input i).gain = s := if_pos rfl

theorem setGain_other {s : State} {i : InputId} {g : Nat} (other : g ≠ (s.input i).gain) :
    s.setGain i g = (s.modInput i (fun x => { x with gain := g })).gainChanged i := if_neg other.symm

theorem setGain_of_other (s : State) (i : InputId) (g : Nat) (other : g ≠ (s.input i).gain) : let t := s.setGain i g
    t.inputs = s.inputs.set i { s.input i with gain := g } ∧
    (∀ p, t.path p = if (s.path p).attachedTo = some i ∧ (s.path p).state ∈ [.fill, .locked, .holdover]
      then { s.path p with window := (s.path p).window.map (fun _ => freshWindow (s.path p).config) } else s.path p) ∧
    t.outputs = s.outputs ∧ t.store = s.store ∧ t.link = s.link ∧ t.device = s.device := by
  intro t
  have changed : t = (s.modInput i (fun x => { x with gain := g })).gainChanged i := setGain_other other
  obtain ⟨outputs, store, link⟩ :=
    foldl_modPath_others Path.windowEvent ((s.modInput i (fun x => { x with gain := g })).attached i) (s.modInput i (fun x => { x with gain := g }))
  rw [changed]
  exact ⟨gainChanged_inputs _ i, fun p => gainChanged_path _ i p, outputs, store, link,
    (Quiet.foldl (fun s p => modPath_quiet s p _) _ _).device⟩

theorem setLevel_same (s : State) (i : InputId) : s.setLevel i (s.input i).weak (s.input i).overload = s := by
  rw [State.setLevel, if_pos ⟨rfl, rfl⟩]
  exact congrArg (fun t => { s with inputs := t }) (s.inputs.set_get i)

theorem setLevel_other {s : State} {i : InputId} {weak overload : Bool}
    (differs : weak ≠ (s.input i).weak ∨ overload ≠ (s.input i).overload) : s.setLevel i weak overload =
    (s.modInput i (fun x => { x with weak, overload })).raise (.input i)
      (.inputLevel weak overload (s.input i).gain (s.input i).occupancy (s.input i).clipCount) := by
  have changed : ¬((s.input i).weak = weak ∧ (s.input i).overload = overload) := by
    rintro ⟨sameWeak, sameOverload⟩
    exact differs.elim (fun h => h sameWeak.symm) fun h => h sameOverload.symm
  rw [State.setLevel, if_neg changed]
  simp

/-- Settles O31: the calibration timer, the close of a gain period, the AUTO rule, and the changes of gain and flags. -/
theorem inputsCalibrateAndCloseGainPeriods : Obligations.InputsCalibrateAndCloseGainPeriods := by
  refine ⟨fun s i released calibrating runs => ?_, fun s i occupancy count released running => ?_, autoGain_table, anyAcquiring_iff,
    setGain_same, setGain_of_other, setLevel_same, fun s i weak overload => setLevel_other⟩
  · have expires : calibrated i s = s.modInput i (fun x => { x with state := .running, calibrationTimer := none }) :=
      if_pos ⟨calibrating, runs⟩
    rw [exec_calibrationTimerExpiry i released, expires]
  · rw [exec_gainPeriodClose i occupancy count released, gainPeriodClosed_of_running running]

/-! ### Impulses (R13, R14) -/

theorem exec_impulseEventBegins (i : InputId) (m : Byte) {s : State} (released : s.resetHeld = false) :
    exec (.impulseEventBegins i m) s = .next (impulseBegins i m s) := live_running released _

/-- A change of an input that keeps no path's attachment in view leaves the attached-path set. -/
theorem attached_of_same_paths {s t : State} (paths : t.paths = s.paths) (i : InputId) : t.attached i = s.attached i := by
  simp only [State.attached, State.path_eq, paths]

theorem setCounter_paths_of_input {s : State} {c : CounterId} {i : InputId} (input : c.unit = .input i) (x : Counter) :
    (s.setCounter c x).paths = s.paths := by
  cases c <;> first | rfl | cases input

theorem count_paths_of_input {s : State} {c : CounterId} {i : InputId} (input : c.unit = .input i) : (s.count c).paths = s.paths := by
  unfold State.count
  split_ifs
  · exact setCounter_paths_of_input input _
  · exact setCounter_paths_of_input input _

theorem impulseBegins_of_above {s : State} {i : InputId} {m : Byte} (running : (s.input i).state = .running)
    (quiet : (s.input i).impulse = false) (detects : 0 < (s.input i).impulseThreshold) (above : (s.input i).impulseThreshold < m.toNat) :
    impulseBegins i m s = ([PathId.p0, .p1, .p2, .p3].filter (fun p => (s.path p).attachedTo == some i)).foldl State.markBlanked
      ((s.modInput i (fun x => { x with impulse := true })).count (.impulse i)) := by
  have begins : impulseBegins i m s = (((s.modInput i (fun x => { x with impulse := true })).count (.impulse i)).attached i).foldl
      State.markBlanked ((s.modInput i (fun x => { x with impulse := true })).count (.impulse i)) :=
    if_pos ⟨running, Nat.pos_iff_ne_zero.mp detects, quiet, above⟩
  have members : ((s.modInput i (fun x => { x with impulse := true })).count (.impulse i)).attached i = s.attached i :=
    attached_of_same_paths (count_paths_of_input rfl) i
  rw [begins, members]
  rfl

theorem markBlanked_of_clear {s : State} {p : PathId} (timed : (s.path p).hasTiming = true) (clear : (s.path p).symbol.blanked = false) :
    s.markBlanked p = (s.modPath p (fun x => { x with symbol := { x.symbol with blanked := true } })).countPath p .blanked :=
  if_pos (by rw [timed, clear]; rfl)

theorem markBlanked_of_none {s : State} {p : PathId} (none : (s.path p).hasTiming = false ∨ (s.path p).symbol.blanked = true) :
    s.markBlanked p = s := by
  refine if_neg ?_
  obtain adrift | blanked := none
  · rw [adrift]
    exact Bool.false_ne_true
  · rw [blanked, Bool.not_true, Bool.and_false]
    exact Bool.false_ne_true

theorem blankIfImpulse_of_quiet {s : State} {p : PathId} (quiet : ∀ i, (s.path p).attachedTo = some i → (s.input i).impulse = false) :
    s.blankIfImpulse p = s := by
  have none : s.impulseAt p = false := by
    unfold State.impulseAt
    cases attached : (s.path p).attachedTo with
    | none => rfl
    | some i => exact quiet i attached
  exact if_neg (Bool.eq_false_iff.mp none)

theorem blankIfImpulse_of_impulse {s : State} {p : PathId} {i : InputId} (attached : (s.path p).attachedTo = some i)
    (impulse : (s.input i).impulse = true) : s.blankIfImpulse p = s.markBlanked p := by
  have runs : s.impulseAt p = true := by
    simp only [State.impulseAt, attached, impulse]
  exact if_pos runs

/-- Settles O32: the event as it begins and as it ends, and when a symbol is marked. -/
theorem impulseBlanksTheSymbolsInProgress : Obligations.ImpulseBlanksTheSymbolsInProgress := by
  refine ⟨fun s i m released running quiet detects above => ?_, fun s i released => live_running released _, fun _ _ => markBlanked_of_clear,
    fun _ _ => markBlanked_of_none, fun _ _ => blankIfImpulse_of_quiet, fun _ _ _ => blankIfImpulse_of_impulse⟩
  rw [exec_impulseEventBegins i m released, impulseBegins_of_above running quiet detects above]

/-! ### The mast supply (R15, R16, R17) -/

theorem exec_overcurrent (i : InputId) {s : State} (released : s.resetHeld = false) :
    exec (.overcurrent i) s = .next (overcurrentTaken i s) := live_running released _

theorem exec_retryTimerExpiry (i : InputId) {s : State} (released : s.resetHeld = false) :
    exec (.retryTimerExpiry i) s = .next (retryTaken i s) := live_running released _

theorem exec_tripFreeTimerExpiry (i : InputId) {s : State} (released : s.resetHeld = false) :
    exec (.tripFreeTimerExpiry i) s = .next (tripFreeTaken i s) := live_running released _

/-- Settles O33: the overcurrent by the retry count, then the two timers. -/
theorem mastSupplyRetriesAndLocksOut : Obligations.MastSupplyRetriesAndLocksOut := by
  intro s i released
  rw [exec_overcurrent i released, exec_retryTimerExpiry i released, exec_tripFreeTimerExpiry i released]
  refine ⟨fun on few => ?_, fun on many => ?_, fun tripped runs => ?_, fun on runs => ?_⟩
  · have trips : overcurrentTaken i s = s.moveMast i .tripped (s.input i).retries (some Config.retryMs) none :=
      (if_pos on).trans (if_pos few)
    rw [trips, State.moveMast, on]
    rfl
  · have locks : overcurrentTaken i s = s.moveMast i .lockout (s.input i).retries none none :=
      (if_pos on).trans (if_neg (Nat.not_lt.mpr many))
    rw [locks, State.moveMast, on]
    rfl
  · have retries : retryTaken i s = s.moveMast i .on ((s.input i).retries + 1) none (some Config.tripFreeMs) := if_pos ⟨tripped, runs⟩
    rw [retries, State.moveMast, tripped]
    rfl
  · have forgets : tripFreeTaken i s = s.modInput i (fun x => { x with retries := 0, tripFreeTimer := none }) := if_pos ⟨on, runs⟩
    rw [forgets]

end Sys2Proof.Machine
end

section
/-! Entering a path state, timing and frames found (R30 to R32, R41, R47, R49, R59, R66, R77, R84, R86, R127, R135): O34 to O37. -/

namespace Sys2Proof.Machine

open Sys2Proof

/-! ### Entering a state -/

theorem enterPath_output (s : State) (p : PathId) (new : PathState) (o : OutputId) : (s.enterPath p new).output o =
    if (s.output o).bound = some p ∧ new.flushes = true then { s.output o with queue := [] } else s.output o := by
  have flushed : (s.outputs.map (Output.flushFor p)).get o =
      if (s.output o).bound = some p then { s.output o with queue := [] } else s.output o := Outputs.get_map _ _ _
  by_cases flushes : new.flushes = true
  · simp only [flushes, and_true]
    rw [State.enterPath, if_pos flushes]
    exact flushed
  · rw [State.enterPath, if_neg flushes, if_neg fun h => flushes h.2]
    rfl

theorem flushes_iff (st : PathState) : st.flushes = true ↔ st ∉ [.symbol, .frame, .fill, .locked, .holdover] := by cases st <;> decide

theorem keepsSymbol_iff (st : PathState) : st.keepsSymbol = true ↔ st ∈ [.symbol, .frame, .pageWait, .fill, .locked, .holdover] := by
  cases st <;> decide

theorem Path.enter_window (x : Path) (new : PathState) : (x.enter new).window =
    if new = .fill ∨ new = .locked then some (freshWindow x.config) else if new = .holdover then x.window else none := by
  cases new <;> rfl

theorem Path.enter_symbol (x : Path) (new : PathState) : (x.enter new).symbol =
    if new ∈ [.symbol, .frame, .pageWait, .fill, .locked, .holdover] then x.symbol else .clear := by
  simp only [Path.enter, keepsSymbol_iff]

theorem Path.enter_symbolAnchor (x : Path) (new : PathState) : (x.enter new).symbolAnchor =
    if new = .symbol then x.tracker.anchor
    else if new ∈ [.frame, .pageWait, .fill, .locked, .holdover] then x.symbolAnchor else none := by
  cases new <;> rfl

theorem movePath_path_self (s : State) (p : PathId) (new : PathState) (reason : Reason) :
    (s.movePath p new reason).path p = (s.path p).enter new := enterPath_path_self s p new

theorem enterPath_link (s : State) (p : PathId) (new : PathState) : (s.enterPath p new).link = s.link := by
  unfold State.enterPath
  dsimp only
  split_ifs <;> rfl

theorem movePath_link (s : State) (p : PathId) (new : PathState) (reason : Reason) : (s.movePath p new reason).link =
    s.link.raise s.device.uptime (.path p) (.pathState (s.path p).state new reason) := by
  rw [State.movePath, State.raise_link, enterPath_link, (enterPath_quiet s p new).device]

/-- Settles O34: what the entry writes, and what it leaves alone. -/
theorem enteringAPathState : Obligations.EnteringAPathState := by
  intro s p new reason t
  obtain ⟨pending, resetHeld, device, inputs, lastTags, freeCount⟩ := movePath_quiet s p new reason
  have self : t.path p = (s.path p).enter new := movePath_path_self s p new reason
  rw [self]
  refine ⟨⟨pending, resetHeld, device, inputs, State.movePath_store s p new reason, lastTags, freeCount⟩,
    fun q other => enterPath_path_ne s new other, rfl, rfl, rfl, rfl, rfl, rfl, rfl, rfl, Path.enter_window _ _, Path.enter_symbol _ _,
    Path.enter_symbolAnchor _ _, ⟨rfl, rfl, rfl, rfl, rfl, rfl, rfl, rfl, rfl, rfl, rfl⟩, fun o => ?_, movePath_link s p new reason⟩
  have outputs : t.output o = (s.enterPath p new).output o := rfl
  rw [outputs, enterPath_output]
  simp only [flushes_iff]

/-! ### What seeding keeps (R59) -/

/-- `a` stands at or before `b` in the order of seeding: the lower attenuation, then the earlier delay. -/
def KeptFirst (a b : Observation) : Prop :=
  a.attenuation.toNat < b.attenuation.toNat ∨ (a.attenuation = b.attenuation ∧ a.delay ≤ b.delay)

theorem keptBefore_iff (a b : Observation) : keptBefore a b = true ↔
    a.attenuation.toNat < b.attenuation.toNat ∨ (a.attenuation = b.attenuation ∧ a.delay < b.delay) := by
  unfold keptBefore
  by_cases same : a.attenuation = b.attenuation
  · simp [same]
  · simp [same]

theorem insertKept_eq (o : Observation) (os : List Observation) :
    insertKept o os = os.orderedInsert (fun a b => keptBefore a b = true) o := by
  induction os with
  | nil => rfl
  | cons x xs ih =>
    rw [insertKept, List.orderedInsert_cons, ih]

/-- The observations in the order of seeding. -/
def seedingOrder (os : List Observation) : List Observation := os.foldl (fun acc o => insertKept o acc) []

theorem seedingOrder_sorted_perm (os : List Observation) : (seedingOrder os).Pairwise KeptFirst ∧ (seedingOrder os).Perm os := by
  have trans (a b c : Observation) (h : KeptFirst a b) (k : KeptFirst b c) : KeptFirst a c := by
    unfold KeptFirst at *
    rw [← BitVec.toNat_inj] at *
    omega
  have below (a b : Observation) (h : keptBefore a b = true) : KeptFirst a b := by
    rw [keptBefore_iff] at h
    exact h.imp_right fun ⟨same, earlier⟩ => ⟨same, earlier.le⟩
  have above (a b : Observation) (h : ¬keptBefore a b = true) : KeptFirst b a := by
    rw [keptBefore_iff] at h
    unfold KeptFirst
    rw [← BitVec.toNat_inj] at *
    omega
  have sorted := foldl_orderedInsert trans below above os [] .nil
  have same : seedingOrder os = os.foldl (fun acc o => acc.orderedInsert (fun a b => keptBefore a b = true) o) [] := by
    simp only [seedingOrder, insertKept_eq]
  rw [same]
  exact ⟨sorted.1, by simpa using sorted.2⟩

theorem keptAtSeeding_strongest (os : List Observation) : ∃ dropped, (keptAtSeeding os ++ dropped).Perm os ∧
    (keptAtSeeding os).length = min 8 os.length ∧
    ∀ a ∈ keptAtSeeding os, ∀ b ∈ dropped, a.attenuation.toNat < b.attenuation.toNat ∨ (a.attenuation = b.attenuation ∧ a.delay ≤ b.delay) := by
  obtain ⟨sorted, perm⟩ := seedingOrder_sorted_perm os
  have split : keptAtSeeding os ++ (seedingOrder os).drop 8 = seedingOrder os := List.take_append_drop 8 _
  refine ⟨(seedingOrder os).drop 8, by rwa [split], ?_, ?_⟩
  · rw [← perm.length_eq]
    exact List.length_take
  · rw [← split] at sorted
    exact (List.pairwise_append.mp sorted).2.2

theorem seedTracker_eq (cfg : PathConfig) (origin : TimingOrigin) (coarse : List Observation) : let t := seedTracker cfg origin coarse
    let rel := relevantSet cfg.echoFloor t.table
    t.table = orderAndMerge ((keptAtSeeding (coarse.filter (fun o => decide (-8192 ≤ o.delay ∧ o.delay ≤ 16383)))).map (fun o =>
      { delay := o.delay, attenuation := o.attenuation.toNat, status := .confirmed, hits := 3, age := 0 })) ∧
    t.origin = some origin ∧ t.anchor = (target origin.guardLength cfg.bias rel).map (fun a => max (-8192) (min 16383 a)) ∧
    t.spill = spills origin.guardLength rel ∧ t.estimate = 0 ∧ t.clampedRun = 0 := by
  refine ⟨?_, rfl, rfl, rfl, rfl, rfl⟩
  simp only [Bool.decide_and]
  rfl

/-! ### Symbol timing found (R31, R86, R135) -/

theorem exec_symbolTimingFound (p : PathId) (mode : SymbolMode) (fraction : GuardFraction) (coarse : List Observation) {s : State}
    (released : s.resetHeld = false) :
    exec (.symbolTimingFound p mode fraction coarse) s = .next (timingFound p { mode, fraction } coarse s) := live_running released _

theorem Path.scanIn_of_phase {x : Path} {record : ScanRecord} {phase : ScanPhase} (scans : x.state = .scan)
    (holds : x.scan = some record) (is : record.phase = phase) : x.scanIn phase = some record := by
  simp [Path.scanIn, scans, holds, is]

theorem Path.scanIn_of_other_phase {x : Path} {record : ScanRecord} {phase : ScanPhase} (scans : x.state = .scan)
    (holds : x.scan = some record) (other : record.phase ≠ phase) : x.scanIn phase = none := by
  simp [Path.scanIn, scans, holds, other]

theorem Path.scanIn_of_other_state {x : Path} {phase : ScanPhase} (other : x.state ≠ .scan) : x.scanIn phase = none := if_neg other

section
variable {s : State} {p : PathId} {origin : TimingOrigin} {coarse : List Observation} (runs : s.stagesRun p = true)
include runs

theorem timingFound_of_search (search : (s.path p).state = .search) : timingFound p origin coarse s =
    ((s.seed p origin coarse).movePath p .symbol .timingFound).blankIfImpulse p := (if_pos runs).trans (if_pos search)

theorem timingFound_of_holdover (holdover : (s.path p).state = .holdover) (lost : (s.path p).holdTiming = false) :
    timingFound p origin coarse s =
      if (s.path p).timingFits origin then (s.modPath p Path.regainTiming).blankIfImpulse p else s := by
  have other (st : PathState) (h : st ≠ .holdover) : (s.path p).state ≠ st := fun is => h (is.symm.trans holdover)
  have noScan : (s.path p).scanIn .search = none := Path.scanIn_of_other_state (other _ (by decide))
  rw [timingFound, if_pos runs, if_neg (other _ (by decide))]
  simp only [noScan, holdover, lost, true_and]

theorem timingFound_of_scan {record : ScanRecord} (scans : (s.path p).state = .scan) (holds : (s.path p).scan = some record)
    (phase : record.phase = .search) : timingFound p origin coarse s =
      ((s.seed p origin coarse).modPath p (fun x => x.symbolPhase record)).blankIfImpulse p := by
  have other (st : PathState) (h : st ≠ .scan) : (s.path p).state ≠ st := fun is => h (is.symm.trans scans)
  have inSearch : (s.path p).scanIn .search = some record := Path.scanIn_of_phase scans holds phase
  rw [timingFound, if_pos runs, if_neg (other _ (by decide)), if_neg fun h => other _ (by decide) h.1]
  simp only [inSearch]

end

theorem seed_path_self (s : State) (p : PathId) (origin : TimingOrigin) (coarse : List Observation) :
    (s.seed p origin coarse).path p = { s.path p with tracker := seedTracker (s.path p).config origin coarse } := by
  have written := modPath_path_self s p (fun x => { x with tracker := seedTracker x.config origin coarse })
  unfold State.seed
  dsimp only
  split_ifs
  · exact written
  · exact written

/-- Settles O35: the move to SYMBOL, what SPILL carries, and what seeding makes of the coarse-sync set. -/
theorem timingFoundInSearchEntersSymbol : Obligations.TimingFoundInSearchEntersSymbol := by
  refine ⟨fun s p mode fraction coarse ⟨released, runs⟩ search => ?_, fun _ _ => rfl, seedTracker_eq, keptAtSeeding_strongest⟩
  intro seeded spilled
  have enters : (spilled.movePath p .symbol .timingFound).path p =
      ({ s.path p with tracker := seedTracker (s.path p).config { mode, fraction } coarse } : Path).enter .symbol := by
    rw [movePath_path_self]
    exact congrArg (fun x => Path.enter x .symbol) (seed_path_self s p { mode, fraction } coarse)
  rw [exec_symbolTimingFound p mode fraction coarse released, timingFound_of_search runs search, enters]
  exact ⟨rfl, rfl, rfl, rfl, rfl, rfl⟩

theorem timingFits_of_held {x : Path} {held : HeldRecord} (holds : x.sig = some held) (origin : TimingOrigin) :
    x.timingFits origin = true ↔
      held.record.symbolMode.toNat = modeCode origin.mode ∧ held.record.guardFraction.toNat = guardCode origin.fraction := by
  simp [Path.timingFits, holds]

/-- Settles O36: HOLDOVER without timing by the mode and guard found, and the search phase of a scan. -/
theorem timingFoundInHoldoverAndScan : Obligations.TimingFoundInHoldoverAndScan := by
  rintro s p mode fraction coarse ⟨released, runs⟩
  rw [exec_symbolTimingFound p mode fraction coarse released]
  refine ⟨fun held holdover lost holds hMode hGuard => ?_, fun held holdover lost holds differs => ?_, fun record scans holds phase => ?_⟩
  · rw [timingFound_of_holdover runs holdover lost, if_pos ((timingFits_of_held holds _).mpr ⟨hMode, hGuard⟩)]
    rfl
  · rw [timingFound_of_holdover runs holdover lost, if_neg]
    rw [timingFits_of_held holds]
    rintro ⟨hMode, hGuard⟩
    exact differs.elim (fun h => h hMode) fun h => h hGuard
  · rw [timingFound_of_scan runs scans holds phase]
    rfl

/-! ### Frame start found (R32, R86, R135) -/

theorem exec_frameStartFound (p : PathId) {s : State} (released : s.resetHeld = false) :
    exec (.frameStartFound p) s = .next (frameStartFound p s) := live_running released _

/-- Settles O37: the three states in which a frame start counts. -/
theorem frameStartMovesOn : Obligations.FrameStartMovesOn := by
  rintro s p ⟨released, runs⟩
  rw [exec_frameStartFound p released]
  refine ⟨fun symbol => ?_, fun holdover timed _ => ?_, fun record scans holds phase => ?_⟩
  · exact congrArg _ ((if_pos runs).trans (if_pos symbol))
  · have other : (s.path p).state ≠ .symbol := fun is => by cases is.symm.trans holdover
    exact congrArg _ ((if_pos runs).trans ((if_neg other).trans (if_pos ⟨holdover, timed⟩)))
  · have other (st : PathState) (h : st ≠ .scan) : (s.path p).state ≠ st := fun is => h (is.symm.trans scans)
    have inSymbol : (s.path p).scanIn .symbol = some record := Path.scanIn_of_phase scans holds phase
    rw [frameStartFound, if_pos runs, if_neg (other _ (by decide)), if_neg fun h => other _ (by decide) h.1]
    simp only [inSymbol]
    rfl

end Sys2Proof.Machine
end

section
/-! Signalling records and faults (R23, R33 to R37, R97, R103, R104, R135, R137, R145, R147, R150): O38 to O40. -/

namespace Sys2Proof.Machine

open Sys2Proof

/-! ### A record in FRAME (R33, R97) -/

theorem exec_signallingRecordDecoded (p : PathId) (d : SigRecord) {s : State} (released : s.resetHeld = false) :
    exec (.signallingRecordDecoded p d) s = .next (recordDecoded p d s) := live_running released _

theorem canGrant_iff (s : State) (n : Nat) : s.canGrant n = true ↔ s.store.wait = [] ∧ n ≤ s.store.free.length := by
  simp [State.canGrant]

theorem pageNeed_eq (d : SigRecord) : pageNeed d = (d.depth.toNat + 65535) / 65536 := rfl

theorem holdRecord_eq (s : State) (p : PathId) (d : SigRecord) :
    s.holdRecord p d = s.modPath p (fun x => { x with sig := some { record := d, unsupported := !supportedRecord d } }) := rfl

theorem holdRecord_of_supported {s : State} {p : PathId} {d : SigRecord} (supported : supportedRecord d = true) :
    s.holdRecord p d = s.modPath p (fun x => { x with sig := some { record := d, unsupported := false } }) := by
  rw [holdRecord_eq, supported]
  rfl

section
variable {s : State} {p : PathId} {d : SigRecord} (runs : s.stagesRun p = true)
include runs

theorem recordDecoded_of_frame (frame : (s.path p).state = .frame) :
    recordDecoded p d s = if supportedRecord d then s.takeInFrame p d else s.takeUnsupported p d := (if_pos runs).trans (if_pos frame)

theorem recordDecoded_of_compares (compares : (s.path p).comparesRecords = true) : recordDecoded p d s =
    if (s.path p).changeCountDiffers d then
      if supportedRecord d then if (s.path p).state = .pageWait then s.takeInPageWait p d else s.takeWhileHolding p d
      else s.takeUnsupported p d
    else s := by
  have notFrame : (s.path p).state ≠ .frame := by
    intro frame
    obtain pageWait | holding := Path.comparesRecords_state compares
    · cases frame.symm.trans pageWait
    · rw [frame] at holding
      exact Bool.false_ne_true holding
  exact (if_pos runs).trans ((if_neg notFrame).trans (if_pos compares))

theorem recordDecoded_of_scan {record : ScanRecord} (scans : (s.path p).state = .scan) (holds : (s.path p).scan = some record)
    (phase : record.phase = .frame) : recordDecoded p d s = s.channelFind p record d := by
  have notFrame : (s.path p).state ≠ .frame := fun frame => by cases frame.symm.trans scans
  have compares : (s.path p).comparesRecords = false := by simp [Path.comparesRecords, -State.path_eq, scans]
  have inFrame : (s.path p).scanIn .frame = some record := Path.scanIn_of_phase scans holds phase
  rw [recordDecoded, if_pos runs, if_neg notFrame, if_neg (Bool.eq_false_iff.mp compares)]
  simp only [inFrame]

theorem recordDecoded_of_none (other : (s.path p).state ≠ .frame ∧ (s.path p).state ≠ .scan)
    (compares : (s.path p).comparesRecords = false) : recordDecoded p d s = s := by
  obtain ⟨notFrame, notScan⟩ := other
  have noPhase : (s.path p).scanIn .frame = none := Path.scanIn_of_other_state notScan
  rw [recordDecoded, if_pos runs, if_neg notFrame, if_neg (Bool.eq_false_iff.mp compares)]
  simp only [noPhase]

end

/-- Settles O38: pages granted or asked for in FRAME, and the find of a scan. -/
theorem recordTakenInFrame : Obligations.RecordTakenInFrame := by
  rintro s p d ⟨released, runs⟩
  rw [exec_signallingRecordDecoded p d released]
  refine ⟨fun frame supported => ?_, fun record scans holds phase => congrArg _ (recordDecoded_of_scan runs scans holds phase)⟩
  have takes : recordDecoded p d s = s.takeInFrame p d := (recordDecoded_of_frame runs frame).trans (if_pos supported)
  rw [takes, State.takeInFrame, holdRecord_of_supported supported]
  refine ⟨fun empty fits => congrArg _ (if_pos ((canGrant_iff _ _).mpr ⟨empty, fits⟩)), fun blocked => congrArg _ (if_neg ?_)⟩
  rw [canGrant_iff]
  rintro ⟨empty, fits⟩
  exact blocked.elim (fun h => h empty) fun few => absurd fits (Nat.not_le.mpr few)

/-! ### A record in PAGE_WAIT, FILL, LOCKED or HOLDOVER (R35, R37, R103, R104) -/

theorem changeCountDiffers_of_held {x : Path} {old : HeldRecord} (holds : x.sig = some old) (d : SigRecord) :
    x.changeCountDiffers d = true ↔ old.record.changeCount ≠ d.changeCount := by
  simp [Path.changeCountDiffers, holds]

theorem sameDepth_of_held {x : Path} {old : HeldRecord} (holds : x.sig = some old) (d : SigRecord) :
    x.sameDepth d = true ↔ old.record.depth = d.depth := by
  simp [Path.sameDepth, holds]

theorem comparesRecords_iff (x : Path) : x.comparesRecords = true ↔ x.frameFound = true ∧
    (x.state = .pageWait ∨ x.state = .fill ∨ x.state = .locked ∨ (x.state = .holdover ∧ x.holdTiming = true)) := by
  simp [Path.comparesRecords, or_assoc]

theorem takeInPageWait_eq (s : State) (p : PathId) (d : SigRecord) : s.takeInPageWait p d =
    if s.waitedNeed p = pageNeed d then s.holdRecord p d
    else if ((s.holdRecord p d).withdraw p).canGrant (pageNeed d) then
      (((s.holdRecord p d).withdraw p).grant p (pageNeed d)).movePath p .fill .pages
    else ((s.holdRecord p d).withdraw p).joinQueue p (pageNeed d) := rfl

theorem takeWhileHolding_eq (s : State) (p : PathId) (d : SigRecord) : s.takeWhileHolding p d =
    if (s.path p).sameDepth d then (s.holdRecord p d).modPath p Path.restartWindow
    else ((s.holdRecord p d).modPath p Path.restartWindow).resize p (pageNeed d) := rfl

/-- The pages the path holds are those it held before the record. -/
theorem held_pages (s : State) (p : PathId) (d : SigRecord) :
    (((s.holdRecord p d).modPath p Path.restartWindow).path p).pages = (s.path p).pages := by
  simp [State.holdRecord, Path.restartWindow]

theorem resize_eq (s : State) (p : PathId) (n : Nat) : let m := (s.path p).pages.length
    s.resize p n = if n = m then (s.dropStaging p).movePath p .fill .resize
      else if n < m then (((s.dropStaging p).releasePages p n).movePath p .fill .resize).examine
      else if s.store.wait = [] ∧ n - m ≤ s.store.free.length then ((s.dropStaging p).grant p (n - m)).movePath p .fill .resize
      else ((((s.dropStaging p).releasePages p 0).joinQueue p n).movePath p .pageWait .resize).examine := by
  intro m
  have grants : (s.dropStaging p).canGrant (n - m) = true ↔ s.store.wait = [] ∧ n - m ≤ s.store.free.length := canGrant_iff _ _
  simp only [State.resize, grants, m]

/-- Settles O39: the record by its change count, the state and the depth; which records are compared. -/
theorem recordTakenWhileWaitingOrHolding : Obligations.RecordTakenWhileWaitingOrHolding := by
  refine ⟨?_, comparesRecords_iff, ?_⟩
  · rintro s p d old ⟨released, runs⟩ holds compares
    rw [exec_signallingRecordDecoded p d released, recordDecoded_of_compares runs compares]
    refine ⟨fun same => ?_, fun differs supported => ?_⟩
    · rw [if_neg]
      rw [changeCountDiffers_of_held holds]
      exact not_not.mpr same
    · rw [if_pos ((changeCountDiffers_of_held holds d).mpr differs), if_pos supported, ← pageNeed_eq]
      refine ⟨fun pageWait same => ?_, fun pageWait other => ?_, fun notWait same => ?_, fun notWait other => ?_⟩
      · rw [if_pos pageWait, takeInPageWait_eq, if_pos same, holdRecord_of_supported supported]
      · rw [if_pos pageWait, takeInPageWait_eq, if_neg other, holdRecord_of_supported supported]
        simp only [canGrant_iff]
        rfl
      · rw [if_neg notWait, takeWhileHolding_eq, if_pos ((sameDepth_of_held holds d).mpr same), holdRecord_of_supported supported]
      · have otherDepth : ¬(s.path p).sameDepth d = true := by
          rw [sameDepth_of_held holds]
          exact other
        rw [if_neg notWait, takeWhileHolding_eq, if_neg otherDepth, resize_eq, held_pages, holdRecord_of_supported supported]
        rfl
  · rintro s p d ⟨released, runs⟩ states compares
    rw [exec_signallingRecordDecoded p d released, recordDecoded_of_none runs ?_ compares]
    constructor
    · intro frame
      simp [frame, -State.path_eq] at states
    · intro scans
      simp [scans, -State.path_eq] at states

/-! ### Faults (R34, R145, R147, R150) -/

theorem disableThree_eq (e : Half) : disableThree e = e &&& 0xFF6E := by
  have masks : disableThree e = ((e &&& 0xFFFE) &&& 0xFFEF) &&& 0xFF7F := rfl
  rw [masks, BitVec.and_assoc, BitVec.and_assoc]
  rfl

theorem faultResult_eq (cause : FaultCause) :
    cause.tuneResult = if cause = .unsupportedSignal then .unsupported else .stopped := by
  cases cause <;> rfl

theorem supportedRecord_iff (d : SigRecord) : supportedRecord d = true ↔ d.symbolMode.toNat < 3 ∧ d.guardFraction.toNat < 4 ∧
    d.constellation.toNat < 4 ∧ d.codeRate.toNat < 6 ∧ 1 ≤ d.depth.toNat ∧ d.depth.toNat ≤ 4194304 ∧ 1000000 ≤ d.streamRate.toNat ∧
    d.streamRate.toNat ≤ 60000000 := by
  simp only [supportedRecord, Bool.and_eq_true, decide_eq_true_eq, and_assoc]

/-- Settles O40: the unsupported record, the two faults, and what a supported record is. -/
theorem unsupportedRecordFaultsThePath : Obligations.UnsupportedRecordFaultsThePath := by
  refine ⟨?_, fun s p cause value => ⟨fun clear => ?_, fun holds => ?_⟩, supportedRecord_iff⟩
  · rintro s p d ⟨released, runs⟩ unsupported states
    have faults : recordDecoded p d s = s.takeUnsupported p d := by
      obtain frame | ⟨compares, differs⟩ := states
      · rw [recordDecoded_of_frame runs frame, if_neg (Bool.eq_false_iff.mp unsupported)]
      · rw [recordDecoded_of_compares runs compares, if_pos differs, if_neg (Bool.eq_false_iff.mp unsupported)]
    rw [exec_signallingRecordDecoded p d released, faults, State.takeUnsupported, holdRecord_eq, unsupported]
    rfl
  · have first : s.takeFault p cause value = s.firstFault p cause value := if_neg (Bool.eq_false_iff.mp clear)
    rw [first, State.firstFault, disableThree_eq, faultResult_eq]
    rfl
  · have second : s.takeFault p cause value = s.secondFault p cause := if_pos holds
    rw [second, State.secondFault, faultResult_eq]

end Sys2Proof.Machine
end

section
/-! Fills, losses, timers and the channels of a scan (R30, R32, R36, R38, R40, R86, R87, R122, R135 to R143): O41, O42, O44 to O46. -/

namespace Sys2Proof.Machine

open Sys2Proof

/-! ### Fill complete (R36, R40, R122) -/

theorem exec_fillComplete (p : PathId) {s : State} (released : s.resetHeld = false) :
    exec (.fillComplete p) s = .next (fillCompleted p s) := live_running released _

theorem latchRate_of_held {s : State} {p : PathId} {held : HeldRecord} (holds : (s.path p).sig = some held) :
    s.latchRate p = [OutputId.o0, .o1, .o2, .o3].foldl (fun t o => t.takeRate p held.record.streamRate o)
      (s.modPath p (fun x => { x with latched := some held.record.streamRate })) := by
  simp only [State.latchRate, holds]
  rfl

section
variable {s : State} {p : PathId} {o : OutputId} (rate : Word)

theorem takeRate_of_other (other : (s.output o).bound ≠ some p ∨ (s.output o).state = .off) : s.takeRate p rate o = s := by
  unfold State.takeRate
  obtain unbound | off := other
  · rw [if_neg unbound]
  · rw [off, ite_self]

theorem takeRate_of_running (bound : (s.output o).bound = some p) (running : (s.output o).state = .running) :
    s.takeRate p rate o = s.modOutput o (fun x => { x with rate := some rate }) := by
  rw [State.takeRate, if_pos bound, running]

theorem takeRate_of_silent (bound : (s.output o).bound = some p) (silent : (s.output o).state = .silent) :
    s.takeRate p rate o = (s.modOutput o (fun x => { x with state := .running, rate := some rate })).beginFirstSlot o := by
  rw [State.takeRate, if_pos bound, silent]

theorem takeRate_first_null (bound : (s.output o).bound = some p) (silent : (s.output o).state = .silent)
    (free : (s.output o).line = none) (empty : (s.output o).queue = []) : s.takeRate p rate o = (s.modOutput o (fun x => { x with
      state := .running, rate := some rate,
      line := some { packet := ⟨0x47, 0x1F, 0xFF, 0x10, List.replicate 184 0xFF⟩, rate := some rate } })).count (.fill o) := by
  rw [takeRate_of_silent rate bound silent, beginFirstSlot_of_empty, modOutput_modOutput]
  · rfl
  · rwa [modOutput_output]
  · rwa [modOutput_output]

theorem takeRate_first_head (head : Packet) (rest : List Packet) (bound : (s.output o).bound = some p)
    (silent : (s.output o).state = .silent) (free : (s.output o).line = none) (queue : (s.output o).queue = head :: rest) :
    s.takeRate p rate o = s.modOutput o (fun x => { x with
      state := .running, rate := some rate, queue := rest, line := some { packet := head, rate := some rate } }) := by
  have idle : ((s.modOutput o (fun x => { x with state := .running, rate := some rate })).output o).line.isNone = true := by
    rw [modOutput_output]
    exact Option.isNone_iff_eq_none.mpr free
  rw [takeRate_of_silent rate bound silent, State.beginFirstSlot, if_pos idle, startSlot_head _ o head rest, modOutput_modOutput]
  rwa [modOutput_output]

theorem takeRate_on_line (bound : (s.output o).bound = some p) (silent : (s.output o).state = .silent)
    (busy : (s.output o).line.isSome = true) :
    s.takeRate p rate o = s.modOutput o (fun x => { x with state := .running, rate := some rate }) := by
  rw [takeRate_of_silent rate bound silent, beginFirstSlot_of_line]
  rwa [modOutput_output]

end

theorem endTune_of_none {s : State} {p : PathId} (result : TuneResult) (absent : (s.path p).tune = none) : s.endTune p result = s := by
  simp only [State.endTune, absent]

theorem endTune_of_flight {s : State} {p : PathId} (result : TuneResult) (tune : TuneRecord) (holds : (s.path p).tune = some tune)
    (flight : tune.result = .pending) : s.endTune p result =
      (s.modPath p (fun x => { x with tune := some { tune with result } })).raise (.path p)
        (.tuneResult tune.sender result tune.attempts) := by
  simp only [State.endTune, holds, if_pos flight]

theorem endTune_of_ended {s : State} {p : PathId} (result : TuneResult) (tune : TuneRecord) (holds : (s.path p).tune = some tune)
    (ended : tune.result ≠ .pending) : s.endTune p result = s := by
  simp only [State.endTune, holds, if_neg ended]

/-- Settles O41: the fill's completion, an output that takes the rate, and how a tune ends. -/
theorem fillCompleteLocksThePath : Obligations.FillCompleteLocksThePath := by
  refine ⟨?_, fun s p rate o => ⟨takeRate_of_other rate, takeRate_of_running rate, takeRate_first_null rate, takeRate_first_head rate,
    takeRate_on_line rate⟩, fun s p result => ⟨endTune_of_none result, endTune_of_flight result, endTune_of_ended result⟩⟩
  rintro s p held ⟨released, runs⟩ fill holds
  have completes : fillCompleted p s =
      (((s.enterPath p .locked).latchRate p).endTune p .locked).raise (.path p) (.pathState .fill .locked .filled) := if_pos ⟨fill, runs⟩
  have keeps : ((s.enterPath p .locked).path p).sig = some held := by
    rw [enterPath_path_self]
    exact holds
  rw [exec_fillComplete p released, completes, latchRate_of_held keeps]

/-! ### Symbol timing lost (R38, R86, R135) -/

/-- Settles O42: the loss by the state of the path. -/
theorem timingLostByState : Obligations.TimingLostByState := by
  rintro s p ⟨released, runs⟩
  rw [exec_symbolTimingLost, live_running released]
  refine ⟨fun acquiring => ?_, fun pageWait => ?_, fun fill => ?_, fun holdover timed => ?_, fun record scans holds later => ?_⟩
  · exact congrArg _ ((if_pos runs).trans (if_pos acquiring))
  · simp only [timingLost, runs, pageWait, if_true, reduceCtorEq, or_self, if_false]
  · simp only [timingLost, runs, fill, if_true, reduceCtorEq, or_self, if_false]
  · simp only [timingLost, runs, holdover, timed, if_true, reduceCtorEq, or_self, if_false, and_self]
    rfl
  · have phases : (s.path p).scanIn .symbol = some record ∨ ((s.path p).scanIn .symbol = none ∧ (s.path p).scanIn .frame = some record) := by
      cases phase : record.phase with
      | search => exact absurd phase later
      | symbol => exact .inl (Path.scanIn_of_phase scans holds phase)
      | frame =>
        refine .inr ⟨Path.scanIn_of_other_phase scans holds ?_, Path.scanIn_of_phase scans holds phase⟩
        rw [phase]
        decide
    obtain inSymbol | ⟨noSymbol, inFrame⟩ := phases
    · simp only [timingLost, runs, scans, inSymbol, if_true, reduceCtorEq, or_self, if_false, false_and]
    · simp only [timingLost, runs, scans, noSymbol, inFrame, if_true, reduceCtorEq, or_self, if_false, false_and]

/-! ### The timers (R30, R32, R87, R135) -/

theorem exec_searchTimerExpiry (p : PathId) {s : State} (released : s.resetHeld = false) :
    exec (.searchTimerExpiry p) s = .next (searchExpired p s) := live_running released _

theorem exec_symbolTimerExpiry (p : PathId) {s : State} (released : s.resetHeld = false) :
    exec (.symbolTimerExpiry p) s = .next (symbolExpired p s) := live_running released _

theorem exec_frameTimerExpiry (p : PathId) {s : State} (released : s.resetHeld = false) :
    exec (.frameTimerExpiry p) s = .next (frameExpired p s) := live_running released _

theorem exec_holdoverTimerExpiry (p : PathId) {s : State} (released : s.resetHeld = false) :
    exec (.holdoverTimerExpiry p) s = .next (holdoverExpired p s) := live_running released _

theorem persists_of_tune {x : Path} {tune : TuneRecord} (holds : x.tune = some tune) : x.persists = tune.persist := by
  simp only [Path.persists, holds]

section
variable {s : State} {p : PathId}

theorem searchExpired_of_search (runs : (s.path p).searchTimer.isSome = true) (search : (s.path p).state = .search) :
    searchExpired p s = if (s.path p).persists then
        (s.modPath p Path.stepAttempts).modPath p (fun x => { x with searchTimer := some Config.searchMs })
      else ((s.modPath p Path.stepAttempts).movePath p .idle .timeout).endTune p .noSignal := (if_pos runs).trans (if_pos search)

variable {record : ScanRecord} (scans : (s.path p).state = .scan) (holds : (s.path p).scan = some record)
include scans holds

theorem searchExpired_of_scan (phase : record.phase = .search) (runs : (s.path p).searchTimer.isSome = true) :
    searchExpired p s = s.channelEmpty p record := by
  simp only [searchExpired, runs, scans, Path.scanIn_of_phase scans holds phase, if_true, reduceCtorEq, if_false]

theorem symbolExpired_of_scan (phase : record.phase = .symbol) (runs : (s.path p).symbolTimer.isSome = true) :
    symbolExpired p s = s.channelEmpty p record := by
  simp only [symbolExpired, runs, scans, Path.scanIn_of_phase scans holds phase, if_true, reduceCtorEq, if_false]

theorem frameExpired_of_scan (phase : record.phase = .frame) (runs : (s.path p).frameTimer.isSome = true) :
    frameExpired p s = s.channelEmpty p record := by
  simp only [frameExpired, runs, scans, Path.scanIn_of_phase scans holds phase, if_true, reduceCtorEq, if_false]

end

/-- Settles O44: the three timers in their states, then in the phases of a scan. -/
theorem phaseTimersExpire : Obligations.PhaseTimersExpire := by
  intro s p released stepped
  rw [exec_searchTimerExpiry p released, exec_symbolTimerExpiry p released, exec_frameTimerExpiry p released]
  refine ⟨fun tune search runs holds => ?_, fun symbol runs => ?_, fun frame runs => ?_, fun record scans holds =>
    ⟨fun phase runs => congrArg _ (searchExpired_of_scan scans holds phase runs),
      fun phase runs => congrArg _ (symbolExpired_of_scan scans holds phase runs),
      fun phase runs => congrArg _ (frameExpired_of_scan scans holds phase runs)⟩⟩
  · rw [searchExpired_of_search runs search, persists_of_tune holds]
    exact ⟨fun persists => congrArg _ (if_pos persists), fun ends => congrArg _ (if_neg (Bool.eq_false_iff.mp ends))⟩
  · exact congrArg _ ((if_pos runs).trans (if_pos symbol))
  · exact congrArg _ ((if_pos runs).trans (if_pos frame))

/-- Settles O46: the pages go back, and the persist flag decides. -/
theorem holdoverExpiryGivesUp : Obligations.HoldoverExpiryGivesUp := by
  intro s p tune released holdover runs holds
  have gives : holdoverExpired p s = (s.releaseHolding p).movePath p (if (s.path p).persists then .search else .idle) .lost :=
    if_pos ⟨holdover, runs⟩
  rw [exec_holdoverTimerExpiry p released, gives, persists_of_tune holds]

/-! ### The channels of a scan (R136, R137, R139 to R141, R143) -/

theorem inputCode_lt (i : InputId) : inputCode i < 2 := by cases i <;> decide

theorem bandCode_lt (b : Band) : bandCode b < 2 := by cases b <;> decide

theorem inputCode_inj {i j : InputId} (same : inputCode i = inputCode j) : i = j := by
  cases i <;> cases j <;> first | rfl | cases same

theorem bandCode_inj {b c : Band} (same : bandCode b = bandCode c) : b = c := by
  cases b <;> cases c <;> first | rfl | cases same

theorem scanKey_eq (i : InputId) (b : Band) (c : Nat) : scanKey i b c = 2000 * inputCode i + 1000 * bandCode b + c := by
  cases i <;> cases b <;> rfl

theorem scanKey_inj {i j : InputId} {b c : Band} {m n : Nat} (hm : m < 1000) (hn : n < 1000) :
    scanKey i b m = scanKey j c n ↔ i = j ∧ b = c ∧ m = n := by
  constructor
  · rw [scanKey_eq, scanKey_eq]
    intro same
    have := bandCode_lt b
    have := bandCode_lt c
    exact ⟨inputCode_inj (by omega), bandCode_inj (by omega), by omega⟩
  · rintro ⟨rfl, rfl, rfl⟩
    rfl

theorem takesFind_iff (l : List ScanEntry) (e : ScanEntry) :
    takesFind l e = true ↔ (∃ x ∈ l, x.key = e.key) ∨ l.length < 64 := by
  simp [takesFind]

theorem takesFind_of_full {l : List ScanEntry} {e : ScanEntry} (fresh : ∀ x ∈ l, x.key ≠ e.key) (full : 64 ≤ l.length) :
    takesFind l e = false := by
  rw [Bool.eq_false_iff, Ne, takesFind_iff]
  rintro (⟨x, mem, same⟩ | room)
  · exact fresh x mem same
  · exact absurd full (Nat.not_le.mpr room)

theorem self_mem_insertScan (e : ScanEntry) : ∀ l, e ∈ insertScan e l
  | [] => List.mem_singleton_self e
  | x :: xs => by
    unfold insertScan
    split_ifs
    · exact List.mem_cons_self
    · exact List.mem_cons_self
    · exact List.mem_cons_of_mem _ (self_mem_insertScan e xs)

/-- Entries of other keys stand. -/
theorem mem_insertScan_of_other_key {e y : ScanEntry} (other : y.key ≠ e.key) : ∀ l, y ∈ insertScan e l ↔ y ∈ l
  | [] => by
    have ne : y ≠ e := fun h => other (h ▸ rfl)
    simp [insertScan, ne]
  | x :: xs => by
    have ne : y ≠ e := fun h => other (h ▸ rfl)
    unfold insertScan
    split_ifs with same before
    · have neX : y ≠ x := fun h => other (h ▸ same.symm)
      simp [ne, neX]
    · simp [ne]
    · simp [mem_insertScan_of_other_key other xs]

theorem find_of_taken {d : Device} {e : ScanEntry} (takes : takesFind d.scanList e = true) :
    d.find e = { d with scanList := insertScan e d.scanList, scanNumber := d.scanNumber + 1 } := if_pos takes

theorem find_of_full {d : Device} {e : ScanEntry} (full : takesFind d.scanList e = false) : d.find e = d :=
  if_neg (Bool.eq_false_iff.mp full)

theorem holdsKey_iff (d : Device) (key : Nat) : d.scanList.any (fun x => x.key == key) = true ↔ ∃ x ∈ d.scanList, x.key = key := by
  simp

theorem removeChannel_of_absent {d : Device} {key : Nat} (absent : ∀ x ∈ d.scanList, x.key ≠ key) : d.removeChannel key = d := by
  refine if_neg ?_
  rw [holdsKey_iff]
  rintro ⟨x, mem, same⟩
  exact absent x mem same

theorem removeChannel_of_present {d : Device} {key : Nat} (present : ∃ x ∈ d.scanList, x.key = key) : d.removeChannel key =
    { d with scanList := d.scanList.filter (fun x => x.key != key), scanNumber := d.scanNumber + 1 } :=
  if_pos ((holdsKey_iff d key).mpr present)

theorem endChannel_of_last {s : State} {p : PathId} {r : ScanRecord} (last : r.current = r.last) : s.endChannel p r =
    ((s.raise (.path p) (.scanDone { r with done := r.done + 1, stopped := false })).modPath p (fun x => { x with scan := none })).movePath
      p .idle .scanEnd := if_pos last.ge

theorem channelFind_of_taken {s : State} {p : PathId} {r : ScanRecord} {d : SigRecord}
    (takes : takesFind s.device.scanList (scanEntryOf r (s.input r.input).gain d) = true) : s.channelFind p r d =
      (s.modDevice (fun t => t.find (scanEntryOf r (s.input r.input).gain d))).endChannel p { r with finds := r.finds + 1 } := by
  simp only [State.channelFind, takes, if_true]

theorem channelFind_of_full {s : State} {p : PathId} {r : ScanRecord} {d : SigRecord}
    (full : takesFind s.device.scanList (scanEntryOf r (s.input r.input).gain d) = false) : s.channelFind p r d =
      s.endChannel p { r with truncated := true } := by
  have same : s.modDevice (fun t => t.find (scanEntryOf r (s.input r.input).gain d)) = s := by
    rw [State.modDevice, find_of_full full]
  simp only [State.channelFind, full, Bool.false_eq_true, if_false, same]

/-- Settles O45: the channel that ends, finds and empty channels, and the list they leave. -/
theorem scanChannelsEnd : Obligations.ScanChannelsEnd := by
  refine ⟨fun _ _ _ more => if_neg (Nat.not_le.mpr more), fun _ _ _ => endChannel_of_last, fun s p r d => ⟨fun room => ?_, fun fresh full => ?_⟩,
    fun _ _ _ => rfl, fun _ => rfl, fun _ _ _ _ _ _ => scanKey_inj, fun d e fresh full => find_of_full (takesFind_of_full fresh full),
    fun d e room => ?_, fun _ _ => removeChannel_of_absent, fun d key present => ?_⟩
  · exact channelFind_of_taken ((takesFind_iff _ _).mpr room)
  · exact channelFind_of_full (takesFind_of_full fresh full)
  · rw [find_of_taken ((takesFind_iff _ _).mpr room)]
    exact ⟨rfl, self_mem_insertScan e _, fun x other => mem_insertScan_of_other_key other _⟩
  · rw [removeChannel_of_present present]
    exact ⟨rfl, fun x => by simp⟩

end Sys2Proof.Machine
end

section
/-! Outputs, bursts and pages (R89, R90, R95, R98 to R101, R105 to R108, R112 to R115, R119 to R128): O52 to O54. -/

namespace Sys2Proof.Machine

open Sys2Proof

/-! ### Packets at the outputs (R89, R90, R124, R125) -/

section
variable {s : State} {p : PathId} {packet : Packet} {status : PacketStatus} {o : OutputId}

theorem packetDelivered_of_delivers (runs : s.stagesRun p = true) (delivers : (s.path p).delivers = true) :
    packetDelivered p packet status s =
      [OutputId.o0, .o1, .o2, .o3].foldl (fun s o => s.arriveAt p packet status o) (s.countPath p (statusCounter status)) :=
  if_pos (by rw [delivers, runs]; rfl)

theorem arriveAt_of_other (other : (s.output o).bound ≠ some p ∨ (s.output o).state ≠ .running) : s.arriveAt p packet status o = s := by
  refine if_neg ?_
  rintro ⟨bound, running⟩
  exact other.elim (fun h => h bound) fun h => h running

theorem arriveAt_of_running (bound : (s.output o).bound = some p) (running : (s.output o).state = .running) :
    s.arriveAt p packet status o = (admitted (s.output o).policy status packet).elim s (s.queuePacket o) := by
  rw [State.arriveAt, if_pos ⟨bound, running⟩]
  cases admitted (s.output o).policy status packet <;> rfl

theorem admitted_of_good (policy : Policy) (good : status ≠ .failed) : admitted policy status packet = some { packet with byte0 := 0x47 } := by
  cases status with
  | failed => exact absurd rfl good
  | _ => rfl

/-- The error policy, by the status and the policy's value (R125). -/
theorem arriveAt_table : ((s.output o).bound ≠ some p ∨ (s.output o).state ≠ .running → s.arriveAt p packet status o = s) ∧
    ((s.output o).bound = some p → (s.output o).state = .running →
      (status ≠ .failed → s.arriveAt p packet status o = s.queuePacket o { packet with byte0 := 0x47 }) ∧
      (status = .failed → (s.output o).policy = .mark → s.arriveAt p packet status o =
        s.queuePacket o { packet with byte0 := 0x47, byte1 := packet.byte1 ||| 0x80 }) ∧
      (status = .failed → (s.output o).policy = .null → s.arriveAt p packet status o =
        s.queuePacket o ⟨0x47, 0x1F, 0xFF, 0x10, List.replicate 184 0xFF⟩) ∧
      (status = .failed → (s.output o).policy = .drop → s.arriveAt p packet status o = s)) := by
  refine ⟨arriveAt_of_other, fun bound running => ?_⟩
  rw [arriveAt_of_running bound running]
  refine ⟨fun good => ?_, fun failed policy => ?_, fun failed policy => ?_, fun failed policy => ?_⟩
  · rw [admitted_of_good _ good]
    rfl
  · rw [failed, policy]
    rfl
  · rw [failed, policy]
    rfl
  · rw [failed, policy]
    rfl

end

/-! ### Slots and the line (R119, R121, R123, R126) -/

theorem exec_slotStart (o : OutputId) {s : State} (released : s.resetHeld = false) :
    exec (.slotStart o) s = .next (slotStarts o s) := live_running released _

theorem exec_packetInProgressFinishes (o : OutputId) {s : State} (released : s.resetHeld = false) :
    exec (.packetInProgressFinishes o) s = .next (packetFinishes o s) := live_running released _

/-- The bytes of a packet on the line, the first at a place in the packet. -/
def lineFrom (place : Nat) (bytes : List Byte) : List LineBit :=
  (bytes.zipIdx place).flatMap (fun e => (byteBits e.1).map (fun data => { data, valid := true, sync := e.2 == 0 }))

theorem packetLine_eq (p : Packet) : packetLine p = lineFrom 0 (packetBytes p) := rfl

theorem lineFrom_cons (place : Nat) (b : Byte) (bytes : List Byte) : lineFrom place (b :: bytes) =
    (byteBits b).map (fun data => { data, valid := true, sync := place == 0 }) ++ lineFrom (place + 1) bytes := by
  rw [lineFrom, List.zipIdx_cons, List.flatMap_cons]
  rfl

theorem lineFrom_data (bytes : List Byte) (place : Nat) : (lineFrom place bytes).map LineBit.data = bytes.flatMap byteBits := by
  induction bytes generalizing place with
  | nil => rfl
  | cons b bytes ih =>
    rw [lineFrom_cons, List.map_append, ih, List.flatMap_cons]
    rfl

theorem lineFrom_valid (bytes : List Byte) (place : Nat) : ∀ e ∈ lineFrom place bytes, e.valid = true := by
  simp only [lineFrom, List.mem_flatMap, List.mem_map]
  rintro e ⟨_, -, _, -, rfl⟩
  rfl

/-- Sync is low from the second byte on. -/
theorem lineFrom_sync (bytes : List Byte) (place : Nat) :
    (lineFrom (place + 1) bytes).map LineBit.sync = List.replicate (8 * bytes.length) false := by
  induction bytes generalizing place with
  | nil => rfl
  | cons b bytes ih =>
    have low : ((byteBits b).map (fun data => (⟨data, true, place + 1 == 0⟩ : LineBit))).map LineBit.sync = List.replicate 8 false := rfl
    rw [lineFrom_cons, List.map_append, ih, low, List.replicate_append_replicate, List.length_cons]
    congr 1
    omega

theorem packetLine_sync (p : Packet) : (packetLine p).map LineBit.sync =
    List.replicate 8 true ++ List.replicate (8 * (p.payload.length + 3)) false := by
  rw [packetLine_eq, packetBytes, lineFrom_cons, List.map_append, lineFrom_sync]
  rfl

theorem packetLine_length {p : Packet} (wf : p.wf = true) : (packetLine p).length = 1504 := by
  have payload : p.payload.length = 184 := by simpa [Packet.wf] using wf
  have length := congrArg List.length (packetLine_sync p)
  rw [List.length_map, List.length_append, List.length_replicate, List.length_replicate, payload] at length
  exact length

theorem line_of_slot {x : Output} {slot : Slot} (sends : x.line = some slot) : x.clockRate = slot.rate ∧
    x.lineBits.map LineBit.data = ([slot.packet.byte0, slot.packet.byte1, slot.packet.byte2, slot.packet.byte3] ++
      slot.packet.payload).flatMap (fun b => [7, 6, 5, 4, 3, 2, 1, 0].map (fun k => b.getLsbD k)) ∧
    (∀ e ∈ x.lineBits, e.valid = true) ∧
    x.lineBits.map LineBit.sync = List.replicate 8 true ++ List.replicate (8 * (slot.packet.payload.length + 3)) false ∧
    (slot.packet.wf = true → x.lineBits.length = 1504) := by
  have bits : x.lineBits = packetLine slot.packet := by simp only [Output.lineBits, sends]
  have rate : x.clockRate = slot.rate := by simp [Output.clockRate, sends]
  rw [bits]
  exact ⟨rate, lineFrom_data _ 0, lineFrom_valid _ 0, packetLine_sync _, packetLine_length⟩

theorem line_of_none {x : Output} (stopped : x.line = none) : x.lineBits = [] ∧ x.clockRate = none := by
  simp [Output.lineBits, Output.clockRate, stopped]

/-- Settles O52: the packet's way to the outputs, the slots, and the bits on the line. -/
theorem packetsReachTheLine : Obligations.PacketsReachTheLine := by
  refine ⟨?_, fun s p packet status o => arriveAt_table, fun s o packet => ⟨fun room => if_pos room, fun full => if_neg (Nat.not_lt.mpr full)⟩,
    fun s o released running => ?_, fun s o released => ?_, fun x => line_of_none, fun x slot => line_of_slot⟩
  · rintro s p packet status ⟨released, runs⟩ delivers
    rw [exec_decodedPacket, live_running released, packetDelivered_of_delivers runs delivers]
    cases status <;> rfl
  · have starts : slotStarts o s = s.startSlot o := if_pos running
    rw [exec_slotStart o released, starts]
    exact ⟨fun head rest queue => congrArg _ (startSlot_head s o head rest queue), fun empty => congrArg _ (startSlot_null s o empty)⟩
  · rw [exec_packetInProgressFinishes o released]
    exact ⟨fun running => congrArg _ (if_pos running), fun stopped => congrArg _ (if_neg stopped)⟩

/-! ### Bursts and refreshes (R106 to R108, R112 to R114) -/

theorem exec_burstFormed (p : PathId) (dir : BurstDir) {s : State} (released : s.resetHeld = false) :
    exec (.burstFormed p dir) s = .next (burstTaken p dir s) := live_running released _

theorem formed_discard (m : SymbolMarks) (dir : BurstDir) : (m.formed dir).discard = m.discard := by cases dir <;> rfl

/-- A burst the path may form, at its staging queue. -/
theorem burstTaken_of_may {s : State} {p : PathId} {dir : BurstDir} (may : (s.path p).mayForm dir = true) :
    let formed := s.modPath p (fun x => { x with symbol := x.symbol.formed dir })
    burstTaken p dir s = (if (s.path p).staging.length < 8 then formed.modPath p (fun x => { x with staging := x.staging ++ [dir] })
      else if (s.path p).symbol.discard then formed
      else (formed.modPath p (fun x => { x with symbol := { x.symbol with discard := true } })).countPath p .storeLate).decideIfIdle := by
  intro formed
  have self : formed.path p = { s.path p with symbol := (s.path p).symbol.formed dir } := modPath_path_self s p _
  have discards : formed.discardBurst p = if (s.path p).symbol.discard then formed
      else (formed.modPath p (fun x => { x with symbol := { x.symbol with discard := true } })).countPath p .storeLate := by
    rw [State.discardBurst, self, formed_discard]
  have staging : (formed.path p).staging.length = (s.path p).staging.length := by rw [self]
  rw [burstTaken, if_pos may, ← discards, ← staging]

theorem mayForm_write (x : Path) : x.mayForm .write = true ↔
    x.formsBursts = true ∧ x.symbol.writes < x.burstLimit / 2 := by
  simp [Path.mayForm]

theorem mayForm_read (x : Path) : x.mayForm .read = true ↔
    x.formsBursts = true ∧ x.symbol.reads < x.burstLimit / 2 := by
  simp [Path.mayForm]

theorem formsBursts_iff (x : Path) : x.formsBursts = true ↔
    x.state = .fill ∨ x.state = .locked ∨ (x.state = .holdover ∧ x.holdTiming = true) := by
  simp [Path.formsBursts, or_assoc]

theorem burstLimit_of_held {x : Path} {held : HeldRecord} (holds : x.sig = some held) (supported : held.record.symbolMode.toNat < 3) :
    x.burstLimit / 2 = [1, 2, 4].getD held.record.symbolMode.toNat 0 := by
  have mode (n : Nat) (is : held.record.symbolMode.toNat = n) : held.record.symbolMode = BitVec.ofNat 8 n := by
    rw [← is, BitVec.ofNat_toNat, BitVec.setWidth_eq]
  have cases3 : held.record.symbolMode.toNat = 0 ∨ held.record.symbolMode.toNat = 1 ∨ held.record.symbolMode.toNat = 2 := by omega
  simp only [Path.burstLimit, holds, burstsPerSymbol]
  obtain zero | one | two := cases3
  · rw [mode 0 zero]
    rfl
  · rw [mode 1 one]
    rfl
  · rw [mode 2 two]
    rfl

theorem mayForm_of_no_record {x : Path} (none : x.sig = none) (dir : BurstDir) : x.mayForm dir = false := by
  cases dir <;> simp [Path.mayForm, Path.burstLimit, none]

theorem nextBurstPath_of_empty {s : State} (empty : ∀ p, (s.path p).staging = []) : s.nextBurstPath = none := by
  rw [State.nextBurstPath, List.find?_eq_none]
  intro p _
  simp [empty p, -State.path_eq]

section
variable {s : State}

theorem decideGrant_of_urgent (urgent : 4 ≤ s.store.refreshPending) : s.decideGrant = s.grantRefresh := if_pos urgent

theorem decideGrant_of_burst {p : PathId} {dir : BurstDir} {rest : List BurstDir} (calm : s.store.refreshPending < 4)
    (first : s.nextBurstPath = some p) (staged : (s.path p).staging = dir :: rest) :
    s.decideGrant = (s.modPath p (fun x => { x with staging := rest })).modStore (fun t => { t with
      service := .burst p dir false, lastGranted := p }) := by
  rw [State.decideGrant, if_neg (Nat.not_le.mpr calm)]
  simp only [first, State.grantBurst, staged]

theorem decideGrant_of_empty (calm : s.store.refreshPending < 4) (empty : ∀ p, (s.path p).staging = []) :
    s.decideGrant = if 0 < s.store.refreshPending then s.grantRefresh else s.modStore (fun t => { t with service := .idle }) := by
  rw [State.decideGrant, if_neg (Nat.not_le.mpr calm)]
  simp only [nextBurstPath_of_empty empty]

end

/-- Settles O53: bursts and refreshes as they come, the grant decisions, and which bursts a path forms. -/
theorem burstsAndRefreshesAreServed : Obligations.BurstsAndRefreshesAreServed := by
  refine ⟨fun s p dir released may => ?_, fun s released => live_running released _, fun s released busy => ?_, fun _ => rfl,
    fun s urgent => decideGrant_of_urgent urgent, fun s p dir rest calm first staged => decideGrant_of_burst calm first staged,
    fun s calm empty due => (decideGrant_of_empty calm empty).trans (if_pos due), fun s none empty => ?_, ⟨rfl, rfl, rfl, rfl⟩,
    fun x held holds supported => ?_, fun x dir none => mayForm_of_no_record none dir, fun _ => ⟨rfl, rfl⟩,
    fun s p dir mayNot => ?_⟩
  · rw [exec_burstFormed p dir released, burstTaken_of_may may]
    refine ⟨fun room => ?_, fun full discarded => ?_, fun full first => ?_⟩
    · rw [if_pos room]
    · rw [if_neg (Nat.not_lt.mpr full), if_pos discarded]
    · rw [if_neg (Nat.not_lt.mpr full), if_neg (Bool.eq_false_iff.mp first)]
  · have ends : grantEnds s = s.decideGrant := if_neg busy
    exact (live_running released _).trans (congrArg _ ends)
  · have calm : s.store.refreshPending < 4 := by omega
    exact (decideGrant_of_empty calm empty).trans (if_neg (by omega))
  · rw [mayForm_write, mayForm_read, burstLimit_of_held holds supported, formsBursts_iff]
    exact ⟨.rfl, .rfl⟩
  · have nothing : burstTaken p dir s = s := if_neg (Bool.eq_false_iff.mp mayNot)
    exact live_of_unchanged nothing

/-! ### Pages (R95, R98 to R101, R105, R107, R115) -/

theorem examine_fits {s : State} {w : Waiting} {rest : List Waiting} (queue : s.store.wait = w :: rest)
    (fits : w.need ≤ s.store.free.length) :
    s.examine = (((s.modStore (fun t => { t with wait := rest })).grant w.path w.need).movePath w.path .fill .pages).examine := by
  have left : (((s.modStore (fun t => { t with wait := rest })).grant w.path w.need).movePath w.path .fill .pages).store.wait = rest := by
    rw [State.movePath_store, State.grant_wait]
    rfl
  rw [State.examine, State.examine, left, queue, List.length_cons, State.examineUpTo, queue]
  exact if_pos fits

theorem releaseHolding_of_none {s : State} {p : PathId} (none : (s.path p).pages = []) : s.releaseHolding p = s :=
  if_pos (List.isEmpty_iff.mpr none)

theorem releaseHolding_of_pages {s : State} {p : PathId} (holds : (s.path p).pages ≠ []) :
    s.releaseHolding p = ((s.releasePages p 0).dropStaging p).examine :=
  if_neg fun none => holds (List.isEmpty_iff.mp none)

theorem stands_iff (s : State) (p : PathId) : s.waits p = true ↔ ∃ w ∈ s.store.wait, w.path = p := by simp [State.waits]

theorem withdraw_of_absent {s : State} {p : PathId} (absent : ∀ w ∈ s.store.wait, w.path ≠ p) : s.withdraw p = s := by
  refine if_neg ?_
  rw [stands_iff]
  rintro ⟨w, mem, same⟩
  exact absent w mem same

theorem withdraw_of_present {s : State} {p : PathId} (present : ∃ w ∈ s.store.wait, w.path = p) : s.withdraw p =
    (s.modStore (fun t => { t with wait := t.wait.filter (fun w => w.path != p) })).examine := if_pos ((stands_iff s p).mpr present)

theorem cellPlace_first {x : Path} {page cell : Nat} {rest : List Nat} (pages : x.pages = page :: rest) (first : cell < 65536) :
    x.cellPlace cell = some (page, cell) := by
  simp [Path.cellPlace, pages, Nat.div_eq_of_lt first, Nat.mod_eq_of_lt first]

/-- Settles O54: grants, releases and examinations, what a path gives up, and where its cells lie. -/
theorem pagesMoveInOrder : Obligations.PagesMoveInOrder := by
  refine ⟨fun s p n => ⟨grant_pages s p n, rfl, rfl, fun q other => Paths.get_set_ne _ _ other, rfl, rfl⟩,
    fun s p n => ⟨releasePages_pages s p n, rfl, rfl, fun q other => Paths.get_set_ne _ _ other, rfl, rfl⟩, examine_empty, examine_blocked,
    fun _ _ _ => examine_fits, fun _ _ => rfl, fun _ _ => ⟨releaseHolding_of_none, releaseHolding_of_pages⟩,
    fun _ _ => ⟨withdraw_of_absent, withdraw_of_present⟩, fun s p => ?_, fun x cell => ⟨cellPlace_inside x cell, cellPlace_outside x cell⟩,
    fun _ _ _ _ => cellPlace_first⟩
  refine congrArg (State.modStore _) (funext fun t => ?_)
  obtain ⟨fitment, free, wait, alloc, service, lastGranted, refreshPending⟩ := t
  cases service <;> rfl

end Sys2Proof.Machine
end

section
/-! The close of a symbol and the result of a window (R66, R73 to R75, R80 to R82, R85, R109): O50 and O51. -/

namespace Sys2Proof.Machine

open Sys2Proof

/-! ### The window and what its result does (R74, R80, R81, R82, R85) -/

theorem exec_symbolClose (p : PathId) (q : Half) {s : State} (released : s.resetHeld = false) :
    exec (.symbolClose p q) s = .next (symbolCloses p q s) := live_running released _

theorem take_eq (w : Window) (blanked : Bool) (q : Nat) : w.take blanked q =
    { w with counted := w.counted + 1, unblanked := if blanked then w.unblanked else w.unblanked + 1,
             sum := if blanked then w.sum else w.sum + q } := by
  cases blanked <;> rfl

theorem belowThreshold_iff (cfg : PathConfig) (q : Quality) :
    belowThreshold cfg q = true ↔ q = .invalid ∨ ∃ n, q = .mer n ∧ n < cfg.lossThreshold := by
  cases q <;> simp [belowThreshold]

theorem recovered_iff (cfg : PathConfig) (q : Quality) :
    recovered cfg q = true ↔ ∃ n, q = .mer n ∧ cfg.lossThreshold + cfg.recoveryHyst ≤ n := by
  cases q <;> simp [recovered]

section
variable {s : State} {p : PathId} {r : Quality}

theorem judge_of_loss (locked : (s.path p).state = .locked) (below : belowThreshold (s.path p).config r = true) :
    s.judge p r = (s.modPath p (fun x => { x with holdTiming := true })).movePath p .holdover .quality := if_pos ⟨locked, below⟩

theorem judge_of_recovery (holdover : (s.path p).state = .holdover) (recovers : recovered (s.path p).config r = true) :
    s.judge p r = ((s.enterPath p .locked).latchRate p).raise (.path p) (.pathState .holdover .locked .recovered) := by
  have notLocked : ¬((s.path p).state = .locked ∧ belowThreshold (s.path p).config r = true) := fun ⟨locked, _⟩ => by
    cases locked.symm.trans holdover
  exact (if_neg notLocked).trans (if_pos ⟨holdover, recovers⟩)

theorem judge_of_stay (stays : (s.path p).state = .locked → belowThreshold (s.path p).config r = false)
    (waits : (s.path p).state = .holdover → recovered (s.path p).config r = false) : s.judge p r = s := by
  refine (if_neg ?_).trans (if_neg ?_)
  · rintro ⟨locked, below⟩
    exact Bool.false_ne_true ((stays locked).symm.trans below)
  · rintro ⟨holdover, recovers⟩
    exact Bool.false_ne_true ((waits holdover).symm.trans recovers)

theorem closeWindow_of_none (q : Half) (none : (s.path p).window = none) : s.closeWindow p q = s := by
  simp only [State.closeWindow, none]

variable {w : Window} (runs : (s.path p).window = some w)
include runs

theorem closeWindow_of_more (q : Half) (more : w.counted + 1 < w.length) : s.closeWindow p q =
    s.modPath p (fun x => { x with window := some (w.take (s.path p).symbol.blanked q.toNat) }) := by
  have counts : (w.take (s.path p).symbol.blanked q.toNat).counted < (w.take (s.path p).symbol.blanked q.toNat).length := by
    rwa [take_eq]
  simp only [State.closeWindow, runs, counts, if_true]

/-- The N-th symbol: the window's result, judged in the path with the next window begun. -/
theorem closeWindow_of_last (q : Half) (last : w.length ≤ w.counted + 1) : s.closeWindow p q =
    (s.modPath p (fun x => { x with
      window := some (freshWindow x.config), quality := (w.take (s.path p).symbol.blanked q.toNat).result })).judge p
        (w.take (s.path p).symbol.blanked q.toNat).result := by
  have counts : ¬(w.take (s.path p).symbol.blanked q.toNat).counted < (w.take (s.path p).symbol.blanked q.toNat).length := by
    rw [take_eq]
    exact Nat.not_lt.mpr last
  simp only [State.closeWindow, runs, counts, if_false]

end

/-! ### The bursts of the symbol (R109, R110) -/

theorem closeBursts_eq (s : State) (p : PathId) : let x := s.path p
    let run := if x.symbol.writes + x.symbol.reads = 0 then x.discardRun else if x.symbol.discard then min 8 (x.discardRun + 1) else 0
    let next := s.modPath p (fun x => { x with
      symbol := .clear, symbolAnchor := if x.hasTiming then x.tracker.anchor else none, discardRun := run })
    s.closeBursts p = if x.discardRun < 8 ∧ run = 8 ∧ x.state ∈ [.fill, .locked, .holdover]
      then next.takeFault p .storeStall x.counters.storeLate.value else next := by
  intro x run next
  have holding : x.state.holding = true ↔ x.state ∈ [.fill, .locked, .holdover] := by simp [holding_iff]
  simp only [← holding]
  rfl

/-! ### SYMBOL_CLOSE -/

section
variable {s : State} {p : PathId} {q : Half} (runs : s.stagesRun p = true)
include runs

theorem symbolCloses_of_timing (timed : (s.path p).hasTiming = true) :
    symbolCloses p q s = ((s.closeWindow p q).closeBursts p).blankIfImpulse p := (if_pos runs).trans (if_pos timed)

theorem symbolCloses_of_no_timing (adrift : (s.path p).hasTiming = false) :
    symbolCloses p q s = if (s.path p).state = .holdover then s.closeBursts p else s :=
  (if_pos runs).trans (if_neg (Bool.eq_false_iff.mp adrift))

end

theorem hasTiming_of_formsBursts {x : Path} (forms : x.formsBursts = true) : x.hasTiming = true := by
  obtain fill | locked | ⟨holdover, timed⟩ := (formsBursts_iff x).mp forms
  · simp [Path.hasTiming, fill]
  · simp [Path.hasTiming, locked]
  · rw [Path.hasTiming_of_holdover holdover, timed]

/-- Settles O50: the window's symbols, its result by state, the paths without a window, and the bursts. -/
theorem symbolCloseFeedsTheWindow : Obligations.SymbolCloseFeedsTheWindow := by
  refine ⟨?_, ?_, closeBursts_eq, fun _ => rfl, fun cfg q => ⟨belowThreshold_iff cfg q, recovered_iff cfg q⟩, fun _ _ _ => latchRate_of_held⟩
  · rintro s p q w ⟨released, runs⟩ forms window x w' closed ended
    have takes : w.take (s.path p).symbol.blanked q.toNat = w' := take_eq _ _ _
    have self : ended.path p = { s.path p with window := some (freshWindow (s.path p).config), quality := w'.result } :=
      modPath_path_self s p _
    have last (done : w.length ≤ w.counted + 1) : s.closeWindow p q = ended.judge p w'.result := by
      rw [closeWindow_of_last window q done, takes]
    rw [exec_symbolClose p q released, symbolCloses_of_timing runs (hasTiming_of_formsBursts forms)]
    refine ⟨fun more => ?_, fun done fill => ?_, fun done locked keeps => ?_, fun done locked below => ?_, fun done holdover waits => ?_,
      fun done holdover recovers => ?_⟩
    · rw [closeWindow_of_more window q more, takes]
    · have fill' : (ended.path p).state = .fill := by rwa [self]
      rw [last done, judge_of_stay (fun locked => by cases locked.symm.trans fill') fun holdover => by cases holdover.symm.trans fill']
    · have locked' : (ended.path p).state = .locked := by rwa [self]
      rw [last done, judge_of_stay (fun _ => by rwa [self]) fun holdover => by cases holdover.symm.trans locked']
    · rw [last done, judge_of_loss (by rwa [self]) (by rwa [self])]
    · have holdover' : (ended.path p).state = .holdover := by rwa [self]
      rw [last done, judge_of_stay (fun locked => by cases locked.symm.trans holdover') fun _ => by rwa [self]]
    · rw [last done, judge_of_recovery (by rwa [self]) (by rwa [self])]
  · rintro s p q ⟨released, runs⟩
    rw [exec_symbolClose p q released]
    refine ⟨fun timed none => ?_, fun adrift holdover => ?_, fun adrift other => ?_⟩
    · rw [symbolCloses_of_timing runs timed, closeWindow_of_none q none]
    · rw [symbolCloses_of_no_timing runs adrift, if_pos holdover]
    · rw [symbolCloses_of_no_timing runs adrift, if_neg other]

end Sys2Proof.Machine
end

section
/-! The result of a window (R75): the test in whole numbers is the rounded logarithm, and O51. -/

namespace Sys2Proof.Machine

open Sys2Proof

/-! ### The test in whole numbers -/

theorem merFrom_le (m : Nat) : ∀ n, merFrom m n ≤ n
  | 0 => Nat.le_refl 0
  | n + 1 => by
    rw [merFrom]
    split_ifs
    · exact Nat.le_refl _
    · exact (merFrom_le m n).trans (Nat.le_succ n)

/-- A result is reached exactly where its own test passes: the tests of lower results are weaker. -/
theorem succ_le_merFrom_iff (m j : Nat) : ∀ n, j < n → (j + 1 ≤ merFrom m n ↔ 10 ^ (2 * j + 1) * m ≤ 65536 ^ 200)
  | 0, below => absurd below (Nat.not_lt_zero j)
  | n + 1, below => by
    rw [merFrom]
    split_ifs with passes
    · have weaker : 10 ^ (2 * j + 1) * m ≤ 10 ^ (2 * n + 1) * m :=
        Nat.mul_le_mul_right m (Nat.pow_le_pow_right (by decide) (by omega))
      exact iff_of_true below (weaker.trans passes)
    · obtain lower | rfl : j < n ∨ j = n := by omega
      · exact succ_le_merFrom_iff m j n lower
      · exact iff_of_false (fun reached => absurd (reached.trans (merFrom_le m j)) (Nat.not_succ_le_self j)) passes

theorem succ_le_merOf_iff {m j : Nat} (pos : 0 < m) (range : j < 400) :
    j + 1 ≤ merOf m ↔ 10 ^ (2 * j + 1) * m ^ 200 ≤ 65536 ^ 200 := by
  rw [merOf, if_neg pos.ne']
  exact succ_le_merFrom_iff _ j 400 range

/-! ### The logarithm -/

/-- 100 log10 r ≥ k − 1/2, times 2 and without the logarithm. -/
theorem le_logb_iff_pow_le {r : ℝ} (pos : 0 < r) (j : Nat) :
    ((j + 1 : Nat) : ℝ) - 1 / 2 ≤ 100 * Real.logb 10 r ↔ (10 : ℝ) ^ (2 * j + 1) ≤ r ^ 200 := by
  have power : (10 : ℝ) ^ (2 * j + 1) ≤ r ^ 200 ↔ ((2 * j + 1 : Nat) : ℝ) ≤ Real.logb 10 (r ^ 200) := by
    rw [Real.le_logb_iff_rpow_le (by norm_num) (pow_pos pos 200), Real.rpow_natCast]
  rw [power, Real.logb_pow]
  push_cast
  constructor <;> intro h <;> linarith

theorem pow_le_ratio_iff {m : Nat} (pos : 0 < m) (j : Nat) :
    (10 : ℝ) ^ (2 * j + 1) ≤ (65536 / (m : ℝ)) ^ 200 ↔ 10 ^ (2 * j + 1) * m ^ 200 ≤ 65536 ^ 200 := by
  have realPos : (0 : ℝ) < (m : ℝ) ^ 200 := pow_pos (Nat.cast_pos.mpr pos) 200
  rw [div_pow, le_div_iff₀ realPos]
  exact_mod_cast Iff.rfl

theorem le_merOf_iff {m k : Nat} (mean : 0 < m) (some : 0 < k) (range : k ≤ 400) :
    k ≤ merOf m ↔ (k : ℝ) - 1 / 2 ≤ 100 * Real.logb 10 (65536 / (m : ℝ)) := by
  obtain ⟨j, rfl⟩ : ∃ j, k = j + 1 := ⟨k - 1, by omega⟩
  have ratio : (0 : ℝ) < 65536 / (m : ℝ) := div_pos (by norm_num) (Nat.cast_pos.mpr mean)
  rw [le_logb_iff_pow_le ratio, pow_le_ratio_iff mean, succ_le_merOf_iff mean range]

theorem merOf_le (m : Nat) : merOf m ≤ 400 := by
  unfold merOf
  split_ifs
  · exact Nat.le_refl 400
  · exact merFrom_le _ 400

/-- Settles O51: the windows that are INVALID, and the rounded ratio of the others. -/
theorem windowResultIsTheRoundedRatio : Obligations.WindowResultIsTheRoundedRatio :=
  ⟨fun _ few => if_pos few, fun _ many => if_neg (Nat.not_lt.mpr many), rfl, merOf_le, fun _ _ => le_merOf_iff⟩

end Sys2Proof.Machine
end

section
/-! Placement of the anchor (R60, R62 to R64): O48. -/

namespace Sys2Proof.Machine

open Sys2Proof

/-! ### The relevant set: its ends and its spread (R60) -/

theorem firstDelay_le {rel : List EchoEntry} (ordered : rel.Pairwise (fun a b => a.delay < b.delay)) :
    ∀ e ∈ rel, firstDelay rel ≤ e.delay := by
  cases rel with
  | nil => simp
  | cons x xs =>
    obtain ⟨first, -⟩ := List.pairwise_cons.mp ordered
    simpa [firstDelay] using fun e mem => (first e mem).le

theorem le_lastDelay {rel : List EchoEntry} (ordered : rel.Pairwise (fun a b => a.delay < b.delay)) :
    ∀ e ∈ rel, e.delay ≤ lastDelay rel := by
  obtain rfl | ⟨init, last, rfl⟩ := rel.eq_nil_or_concat'
  · simp
  · obtain ⟨-, -, before⟩ := List.pairwise_append.mp ordered
    intro e mem
    rw [lastDelay_append_singleton]
    obtain earlier | final := List.mem_append.mp mem
    · exact (before e earlier last (List.mem_singleton_self last)).le
    · rw [List.mem_singleton.mp final]

theorem firstDelay_mem {rel : List EchoEntry} (some : rel ≠ []) : ∃ e ∈ rel, e.delay = firstDelay rel := by
  cases rel with
  | nil => exact absurd rfl some
  | cons x xs => exact ⟨x, List.mem_cons_self, rfl⟩

theorem lastDelay_mem {rel : List EchoEntry} (some : rel ≠ []) : ∃ e ∈ rel, e.delay = lastDelay rel := by
  obtain rfl | ⟨init, last, rfl⟩ := rel.eq_nil_or_concat'
  · exact absurd rfl some
  · exact ⟨last, by simp, (lastDelay_append_singleton init last).symm⟩

theorem spills_iff (g : Nat) (rel : List EchoEntry) : spills g rel = true ↔ rel ≠ [] ∧ (g : Int) < spread rel := by
  simp [spills]

theorem mem_candidates (g : Nat) (rel : List EchoEntry) (a : Int) :
    a ∈ candidates g rel ↔ ∃ e ∈ rel, a = e.delay ∨ a = e.delay + g := by
  simp [candidates]

/-! ### The best candidate (R64) -/

/-- `t` captures more than `a`, or as much and is not the greater. -/
def Beats (g : Nat) (rel : List EchoEntry) (t a : Int) : Prop :=
  capturedWeight g rel a < capturedWeight g rel t ∨ (capturedWeight g rel a = capturedWeight g rel t ∧ t ≤ a)

theorem Beats.refl (g : Nat) (rel : List EchoEntry) (a : Int) : Beats g rel a a := .inr ⟨rfl, le_rfl⟩

theorem Beats.trans {g : Nat} {rel : List EchoEntry} {a b c : Int} (h : Beats g rel a b) (k : Beats g rel b c) : Beats g rel a c := by
  unfold Beats at *
  omega

theorem betterCandidate_beats (g : Nat) (rel : List EchoEntry) (a b : Int) :
    Beats g rel (betterCandidate g rel a b) a ∧ Beats g rel (betterCandidate g rel a b) b := by
  unfold betterCandidate
  split_ifs with second first
  · exact ⟨.inl second, .refl _ _ _⟩
  · exact ⟨.refl _ _ _, .inl first⟩
  · have tie : capturedWeight g rel a = capturedWeight g rel b := by omega
    obtain before | after := le_total a b
    · rw [min_eq_left before]
      exact ⟨.refl _ _ _, .inr ⟨tie.symm, before⟩⟩
    · rw [min_eq_right after]
      exact ⟨.inr ⟨tie, after⟩, .refl _ _ _⟩

theorem betterCandidate_mem (g : Nat) (rel : List EchoEntry) (a b : Int) :
    betterCandidate g rel a b = a ∨ betterCandidate g rel a b = b := by
  unfold betterCandidate
  split_ifs
  · exact .inr rfl
  · exact .inl rfl
  · exact min_choice a b

/-- Folding keeps one of what it has met, and that beats all of it. -/
theorem foldl_betterCandidate (g : Nat) (rel : List EchoEntry) : ∀ (l : List Int) (a : Int),
    l.foldl (betterCandidate g rel) a ∈ a :: l ∧ ∀ b ∈ a :: l, Beats g rel (l.foldl (betterCandidate g rel) a) b
  | [], a => ⟨List.mem_cons_self, fun b mem => by rw [List.mem_singleton.mp mem]; exact .refl _ _ _⟩
  | b :: l, a => by
    obtain ⟨mem, beats⟩ := foldl_betterCandidate g rel l (betterCandidate g rel a b)
    obtain ⟨beatsA, beatsB⟩ := betterCandidate_beats g rel a b
    have first := beats _ List.mem_cons_self
    refine ⟨?_, fun c met => ?_⟩
    · rw [List.foldl_cons]
      obtain same | later := List.mem_cons.mp mem
      · rw [same]
        obtain isA | isB := betterCandidate_mem g rel a b
        · simp [isA]
        · simp [isB]
      · exact List.mem_cons_of_mem _ (List.mem_cons_of_mem _ later)
    · obtain rfl | rfl | later := by simpa using met
      · exact first.trans beatsA
      · exact first.trans beatsB
      · exact beats c (List.mem_cons_of_mem _ later)

theorem target_of_spill {g bias : Nat} {e : EchoEntry} {es : List EchoEntry} (spill : (g : Int) < spread (e :: es)) :
    ∃ t, target g bias (e :: es) = some t ∧ t ∈ candidates g (e :: es) ∧ ∀ a ∈ candidates g (e :: es), Beats g (e :: es) t a := by
  have start : firstDelay (e :: es) ∈ candidates g (e :: es) := (mem_candidates _ _ _).mpr ⟨e, List.mem_cons_self, .inl rfl⟩
  obtain ⟨mem, beats⟩ := foldl_betterCandidate g (e :: es) (candidates g (e :: es)) (firstDelay (e :: es))
  refine ⟨spillTarget g (e :: es), ?_, ?_, fun a met => beats a (List.mem_cons_of_mem _ met)⟩
  · have spills : spills g (e :: es) = true := (spills_iff _ _).mpr ⟨List.cons_ne_nil e es, spill⟩
    simp [target, spills]
  · obtain same | later := List.mem_cons.mp mem
    · rwa [spillTarget, same]
    · exact later

/-- Settles O48: the three cases of the target, then what the relevant set, its spread, the candidates and their weights are. -/
theorem placementChoosesTheTarget : Obligations.PlacementChoosesTheTarget :=
  ⟨fun _ _ => rfl, target_of_fits, fun _ _ _ _ _ spill => target_of_spill spill,
    fun _ _ => ⟨List.filter_sublist, fun _ => mem_relevantSet⟩,
    fun _ some ordered => ⟨firstDelay_mem some, lastDelay_mem some, fun e mem => ⟨firstDelay_le ordered e mem, le_lastDelay ordered e mem⟩⟩,
    fun _ => rfl, rfl, spills_iff, mem_candidates, fun g a => ⟨rfl, fun e es => capturedWeight_cons g e es a⟩⟩

end Sys2Proof.Machine
end

section
/-! The steps of an estimate on the table (R52 to R58). -/

namespace Sys2Proof.Machine

open Sys2Proof

/-! ### Step 2: match (R53) -/

/-- The nearer of the best delay so far and the next, the earlier of two at one distance; none beyond 2 ticks. -/
def nearerDelay (d : Int) (best : Option (Nat × Int)) (x : Int) : Option (Nat × Int) :=
  if (d - x).natAbs ≤ 2 then
    match best with
    | none => some ((d - x).natAbs, x)
    | some b => if (d - x).natAbs < b.1 then some ((d - x).natAbs, x) else some b
  else best

theorem nearerDelay_far {d x : Int} (far : 2 < (d - x).natAbs) (best : Option (Nat × Int)) : nearerDelay d best x = best :=
  if_neg (Nat.not_le.mpr far)

theorem nearerDelay_first {d x : Int} (near : (d - x).natAbs ≤ 2) : nearerDelay d none x = some ((d - x).natAbs, x) := if_pos near

theorem nearerDelay_keeps {d x : Int} {b : Nat × Int} (kept : b.1 ≤ (d - x).natAbs) : nearerDelay d (some b) x = some b := by
  unfold nearerDelay
  split_ifs with near
  · exact if_neg (Nat.not_lt.mpr kept)
  · rfl

theorem nearerDelay_wins {d x : Int} {b : Nat × Int} (near : (d - x).natAbs ≤ 2) (nearer : (d - x).natAbs < b.1) :
    nearerDelay d (some b) x = some ((d - x).natAbs, x) := by
  simp [nearerDelay, near, nearer]

/-- The search looks at the starting delays alone. -/
theorem nearestStart_eq (d : Int) (ws : List Working) :
    nearestStart d ws = ((ws.filterMap Working.start).foldl (nearerDelay d) none).map Prod.snd := by
  rw [List.foldl_filterMap]
  unfold nearestStart
  refine congrArg (fun step => (ws.foldl step none).map Prod.snd) (funext fun best => funext fun w => ?_)
  cases start : w.start with
  | none => simp [Working.distance, start]
  | some x =>
    by_cases near : (d - x).natAbs ≤ 2
    · cases best with
      | none => simp [Working.distance, start, near, nearerDelay]
      | some b =>
        obtain ⟨k, y⟩ := b
        simp [Working.distance, start, near, nearerDelay]
    · cases best with
      | none => simp [Working.distance, start, near, nearerDelay]
      | some b => simp [Working.distance, start, near, nearerDelay]

theorem foldl_nearerDelay_far {d : Int} {l : List Int} (far : ∀ x ∈ l, 2 < (d - x).natAbs) (best : Option (Nat × Int)) :
    l.foldl (nearerDelay d) best = best := by
  induction l generalizing best with
  | nil => rfl
  | cons x l ih =>
    rw [List.foldl_cons, nearerDelay_far (far x List.mem_cons_self), ih fun y mem => far y (List.mem_cons_of_mem x mem)]

theorem foldl_nearerDelay_keeps {d : Int} {b : Nat × Int} {l : List Int} (kept : ∀ x ∈ l, b.1 ≤ (d - x).natAbs) :
    l.foldl (nearerDelay d) (some b) = some b := by
  induction l with
  | nil => rfl
  | cons x l ih =>
    rw [List.foldl_cons, nearerDelay_keeps (kept x List.mem_cons_self), ih fun y mem => kept y (List.mem_cons_of_mem x mem)]

/-- Delays all farther than `k` leave nothing, or something farther than `k`. -/
theorem foldl_nearerDelay_beyond {d : Int} {k : Nat} (l : List Int) (best : Option (Nat × Int)) (beyond : ∀ x ∈ l, k < (d - x).natAbs)
    (before : ∀ b ∈ best, k < b.1) : ∀ b ∈ l.foldl (nearerDelay d) best, k < b.1 := by
  induction l generalizing best with
  | nil => exact before
  | cons x l ih =>
    refine ih _ (fun y mem => beyond y (List.mem_cons_of_mem x mem)) fun b found => ?_
    unfold nearerDelay at found
    have farther := beyond x List.mem_cons_self
    split_ifs at found with near
    · cases best with
      | none =>
        obtain rfl : ((d - x).natAbs, x) = b := by simpa using found
        exact farther
      | some c =>
        dsimp only at found
        split_ifs at found
        · obtain rfl : ((d - x).natAbs, x) = b := by simpa using found
          exact farther
        · exact before b found
    · exact before b found

theorem nearerDelay_of_beyond {d x : Int} {best : Option (Nat × Int)} (near : (d - x).natAbs ≤ 2)
    (beyond : ∀ b ∈ best, (d - x).natAbs < b.1) : nearerDelay d best x = some ((d - x).natAbs, x) := by
  cases best with
  | none => exact nearerDelay_first near
  | some b => exact nearerDelay_wins near (beyond b rfl)

/-- In ascending order the nearest delay, the earlier of two at one distance, is what the search ends with. -/
theorem foldl_nearerDelay_of_nearest {d x : Int} {l : List Int} (ordered : l.Pairwise (· < ·)) (mem : x ∈ l)
    (near : (d - x).natAbs ≤ 2)
    (nearest : ∀ y ∈ l, (d - x).natAbs < (d - y).natAbs ∨ ((d - x).natAbs = (d - y).natAbs ∧ x ≤ y)) :
    l.foldl (nearerDelay d) none = some ((d - x).natAbs, x) := by
  obtain ⟨pre, post, rfl⟩ := List.append_of_mem mem
  obtain ⟨-, -, before⟩ := List.pairwise_append.mp ordered
  have preBeyond : ∀ y ∈ pre, (d - x).natAbs < (d - y).natAbs := fun y met => by
    have earlier := before y met x List.mem_cons_self
    obtain farther | ⟨-, later⟩ := nearest y (List.mem_append_left _ met)
    · exact farther
    · omega
  have postKept : ∀ y ∈ post, (d - x).natAbs ≤ (d - y).natAbs := fun y met => by
    obtain farther | ⟨same, -⟩ := nearest y (List.mem_append_right _ (List.mem_cons_of_mem x met))
    · exact farther.le
    · exact same.le
  rw [List.foldl_append, List.foldl_cons, nearerDelay_of_beyond near (foldl_nearerDelay_beyond pre none preBeyond nofun),
    foldl_nearerDelay_keeps postKept]

theorem matchOne_of_far {ws : List Working} {unmatched : List Observation} {o : Observation}
    (far : ∀ w ∈ ws, ∀ x, w.start = some x → 2 < (o.delay - x).natAbs) : matchOne (ws, unmatched) o = (ws, unmatched ++ [o]) := by
  have none : nearestStart o.delay ws = none := by
    rw [nearestStart_eq, foldl_nearerDelay_far]
    · rfl
    · intro x met
      obtain ⟨w, mem, start⟩ := List.mem_filterMap.mp met
      exact far w mem x start
  simp only [matchOne, none]

theorem matchOne_of_nearest {ws : List Working} {unmatched : List Observation} {o : Observation} {x : Int}
    (ordered : (ws.filterMap Working.start).Pairwise (· < ·)) (mem : x ∈ ws.filterMap Working.start) (near : (o.delay - x).natAbs ≤ 2)
    (nearest : ∀ y ∈ ws.filterMap Working.start, (o.delay - x).natAbs < (o.delay - y).natAbs ∨
      ((o.delay - x).natAbs = (o.delay - y).natAbs ∧ x ≤ y)) :
    matchOne (ws, unmatched) o = (ws.map (fun w => if w.start = some x ∧ w.touched = false then { w with
      touched := true, entry := { w.entry with delay := o.delay, attenuation := o.attenuation.toNat, hits := min 15 (w.entry.hits + 1),
                                               age := 0 } } else w), unmatched) := by
  have found : nearestStart o.delay ws = some x := by
    rw [nearestStart_eq, foldl_nearerDelay_of_nearest ordered mem near nearest]
    rfl
  simp only [matchOne, found, Bool.not_eq_true']
  rfl

/-! ### Step 3: new arrivals and displacement (R54, R55) -/

/-- `a` is no weaker than `e`. -/
def NoWeaker (a e : EchoEntry) : Prop :=
  a.attenuation < e.attenuation ∨ (a.attenuation = e.attenuation ∧
    ((a.status = .confirmed ∧ e.status = .tentative) ∨ (a.status = e.status ∧ a.delay ≤ e.delay)))

theorem NoWeaker.refl (e : EchoEntry) : NoWeaker e e := .inr ⟨rfl, .inr ⟨rfl, le_rfl⟩⟩

theorem NoWeaker.trans {a b c : EchoEntry} (h : NoWeaker a b) (k : NoWeaker b c) : NoWeaker a c := by
  unfold NoWeaker at *
  obtain less | ⟨same, h⟩ := h
  · obtain less' | ⟨same', -⟩ := k
    · exact .inl (less.trans less')
    · exact .inl (same' ▸ less)
  · obtain less' | ⟨same', k⟩ := k
    · exact .inl (same ▸ less')
    · refine .inr ⟨same.trans same', ?_⟩
      obtain ⟨confirmed, tentative⟩ | ⟨status, earlier⟩ := h
      · obtain ⟨confirmed', -⟩ | ⟨status', -⟩ := k
        · cases tentative.symm.trans confirmed'
        · exact .inl ⟨confirmed, status' ▸ tentative⟩
      · obtain ⟨confirmed', tentative'⟩ | ⟨status', earlier'⟩ := k
        · exact .inl ⟨status.trans confirmed', tentative'⟩
        · exact .inr ⟨status.trans status', earlier.trans earlier'⟩

theorem EchoStatus.eq_tentative {a b : EchoStatus} (differs : a ≠ b) : (a == .tentative) = true ↔ a = .tentative ∧ b = .confirmed := by
  cases a <;> cases b <;> simp_all

theorem noWeaker_of_weaker {a b : EchoEntry} (weak : weaker a b = true) : NoWeaker b a := by
  unfold weaker at weak
  unfold NoWeaker
  by_cases attenuation : a.attenuation = b.attenuation
  · by_cases status : a.status = b.status
    · simp [attenuation, status] at weak
      exact .inr ⟨attenuation.symm, .inr ⟨status.symm, weak.le⟩⟩
    · simp only [attenuation, bne_self_eq_false, Bool.false_eq_true, if_false, bne_iff_ne, ne_eq, status, not_false_eq_true, if_true] at weak
      obtain ⟨tentative, confirmed⟩ := (EchoStatus.eq_tentative status).mp weak
      exact .inr ⟨attenuation.symm, .inl ⟨confirmed, tentative⟩⟩
  · simp [attenuation] at weak
    exact .inl weak

theorem noWeaker_of_not_weaker {a b : EchoEntry} (strong : weaker a b = false) : NoWeaker a b := by
  unfold weaker at strong
  unfold NoWeaker
  by_cases attenuation : a.attenuation = b.attenuation
  · by_cases status : a.status = b.status
    · simp [attenuation, status] at strong
      exact .inr ⟨attenuation, .inr ⟨status, strong⟩⟩
    · simp only [attenuation, bne_self_eq_false, Bool.false_eq_true, if_false, bne_iff_ne, ne_eq, status, not_false_eq_true, if_true] at strong
      refine .inr ⟨attenuation, .inl ?_⟩
      cases first : a.status <;> cases second : b.status <;> simp_all
  · simp [attenuation] at strong
    omega

/-- The search ends with the weakest of what it had and what it met untouched. -/
theorem foldl_weakestStep_weakest (ws : List Working) (best : Option EchoEntry) (e : EchoEntry)
    (found : ws.foldl weakestStep best = some e) :
    (∀ b ∈ best, NoWeaker b e) ∧ ∀ w ∈ ws, w.touched = false → NoWeaker w.entry e := by
  induction ws generalizing best with
  | nil =>
    obtain rfl : best = some e := found
    exact ⟨fun b mem => by obtain rfl := Option.some.inj mem; exact .refl _, nofun⟩
  | cons w ws ih =>
    obtain ⟨kept, rest⟩ := ih _ found
    cases touched : w.touched with
    | true =>
      rw [weakestStep_touched best touched] at kept
      refine ⟨kept, fun v mem untouched => ?_⟩
      obtain rfl | later := List.mem_cons.mp mem
      · cases touched.symm.trans untouched
      · exact rest v later untouched
    | false =>
      have both : (∀ b ∈ best, NoWeaker b e) ∧ NoWeaker w.entry e := by
        cases best with
        | none =>
          rw [weakestStep_first touched] at kept
          exact ⟨nofun, kept _ rfl⟩
        | some b =>
          rw [weakestStep_next b touched] at kept
          have below := kept _ rfl
          cases weak : weaker w.entry b with
          | true =>
            rw [weak, if_pos rfl] at below
            exact ⟨fun c mem => by obtain rfl := Option.some.inj mem; exact (noWeaker_of_weaker weak).trans below, below⟩
          | false =>
            rw [weak, if_neg Bool.false_ne_true] at below
            exact ⟨fun c mem => by obtain rfl := Option.some.inj mem; exact below, (noWeaker_of_not_weaker weak).trans below⟩
      refine ⟨both.1, fun v mem untouched => ?_⟩
      obtain rfl | later := List.mem_cons.mp mem
      · exact both.2
      · exact rest v later untouched

theorem foldl_weakestStep_some (ws : List Working) (b : EchoEntry) : ws.foldl weakestStep (some b) ≠ none := by
  induction ws generalizing b with
  | nil => exact Option.some_ne_none b
  | cons w ws ih =>
    rw [List.foldl_cons]
    cases touched : w.touched with
    | true =>
      rw [weakestStep_touched _ touched]
      exact ih b
    | false =>
      rw [weakestStep_next b touched]
      exact ih _

theorem weakestUntouched_eq_none (ws : List Working) : weakestUntouched ws = none ↔ ∀ w ∈ ws, w.touched = true := by
  rw [weakestUntouched_eq]
  induction ws with
  | nil => simp
  | cons w ws ih =>
    rw [List.foldl_cons, List.forall_mem_cons]
    cases touched : w.touched with
    | true =>
      rw [weakestStep_touched _ touched, ih]
      simp
    | false =>
      rw [weakestStep_first touched]
      simpa using foldl_weakestStep_some ws w.entry

theorem insertNewcomer_of_room {ws : List Working} (room : ws.length < 8) (o : Observation) : insertNewcomer ws o =
    ws ++ [{ start := none, touched := true, entry := newEntry o }] := if_pos room

theorem insertNewcomer_of_touched {ws : List Working} (full : 8 ≤ ws.length) (o : Observation) (touched : ∀ w ∈ ws, w.touched = true) :
    insertNewcomer ws o = ws := by
  simp only [insertNewcomer, if_neg (Nat.not_lt.mpr full), (weakestUntouched_eq_none ws).mpr touched]

theorem insertNewcomer_of_weakest {ws : List Working} {e : EchoEntry} (full : 8 ≤ ws.length) (o : Observation)
    (weakest : weakestUntouched ws = some e) : insertNewcomer ws o = if o.attenuation.toNat < e.attenuation
      then ws.filter (fun w => w.touched || w.entry != e) ++ [{ start := none, touched := true, entry := newEntry o }] else ws := by
  simp only [insertNewcomer, if_neg (Nat.not_lt.mpr full), weakest]

/-! ### Steps 4 and 5: ageing and promotion (R56, R57) -/

theorem ageOne_table (fade : Nat) (w : Working) : (w.touched = true → ageOne fade w = some w.entry) ∧
    (w.touched = false → fade ≤ w.entry.age + 1 → ageOne fade w = none) ∧
    (w.touched = false → w.entry.age + 1 < fade → ageOne fade w = some { w.entry with age := w.entry.age + 1 }) := by
  refine ⟨fun touched => if_pos touched, fun untouched fades => ?_, fun untouched stays => ?_⟩
  · rw [ageOne, if_neg (Bool.eq_false_iff.mp untouched), if_pos fades]
  · rw [ageOne, if_neg (Bool.eq_false_iff.mp untouched), if_neg (Nat.not_le.mpr stays)]

/-! ### Step 6: order and merge (R58) -/

theorem combineFrom_of_apart (a b : EchoEntry) (rest : List EchoEntry) (apart : a.delay + 2 < b.delay) :
    combineFrom a (b :: rest) = a :: combineFrom b rest := if_neg (by dsimp only [Config.matchTicks]; omega)

theorem combineFrom_of_close (a b : EchoEntry) (rest : List EchoEntry) (close : b.delay ≤ a.delay + 2) :
    combineFrom a (b :: rest) = combineFrom (combine a b) rest := if_pos (by dsimp only [Config.matchTicks]; omega)

theorem combineFrom_of_pairwise (a : EchoEntry) (es : List EchoEntry) (apart : (a :: es).Pairwise (fun a b => a.delay + 2 < b.delay)) :
    combineFrom a es = a :: es := by
  induction es generalizing a with
  | nil => rfl
  | cons b es ih =>
    obtain ⟨first, rest⟩ := List.pairwise_cons.mp apart
    rw [combineFrom_of_apart a b es (first b List.mem_cons_self), ih b rest]

theorem mergeClose_of_pairwise {es : List EchoEntry} (apart : es.Pairwise (fun a b => a.delay + 2 < b.delay)) : mergeClose es = es := by
  cases es with
  | nil => rfl
  | cons a es => exact combineFrom_of_pairwise a es apart

/-- Past entries that stay apart, the first close pair is combined and the search goes on from the combined entry. -/
theorem combineFrom_append_close {a b : EchoEntry} (after : List EchoEntry) (ordered : a.delay ≤ b.delay)
    (close : b.delay ≤ a.delay + 2) : ∀ (before : List EchoEntry) (x : EchoEntry),
      (x :: (before ++ [a])).Pairwise (fun x y => x.delay + 2 < y.delay) →
        combineFrom x (before ++ a :: b :: after) = combineFrom x (before ++ combine a b :: after)
  | [], x, apart => by
    obtain ⟨first, -⟩ := List.pairwise_cons.mp apart
    have far := first a (by simp)
    have farToo : x.delay + 2 < (combine a b).delay := by
      obtain same | same := combine_delay a b <;> omega
    rw [List.nil_append, List.nil_append, combineFrom_of_apart x a _ far, combineFrom_of_close a b after close,
      combineFrom_of_apart x _ _ farToo]
  | y :: before, x, apart => by
    obtain ⟨first, rest⟩ := List.pairwise_cons.mp apart
    have far := first y List.mem_cons_self
    rw [List.cons_append, List.cons_append, combineFrom_of_apart x y _ far, combineFrom_of_apart x y _ far,
      combineFrom_append_close after ordered close before y rest]

theorem mergeClose_append_close {before after : List EchoEntry} {a b : EchoEntry}
    (apart : (before ++ [a]).Pairwise (fun x y => x.delay + 2 < y.delay)) (ordered : a.delay ≤ b.delay) (close : b.delay ≤ a.delay + 2) :
    mergeClose (before ++ a :: b :: after) = mergeClose (before ++ combine a b :: after) := by
  cases before with
  | nil => exact combineFrom_of_close a b after close
  | cons x before => exact combineFrom_append_close after ordered close before x apart

theorem combine_table (a b : EchoEntry) : ((combine a b).status = .confirmed ↔ a.status = .confirmed ∨ b.status = .confirmed) ∧
    (combine a b).hits = max a.hits b.hits ∧ (combine a b).age = min a.age b.age ∧
    ((combine a b).delay, (combine a b).attenuation) =
      if b.attenuation < a.attenuation ∨ (a.attenuation = b.attenuation ∧ a.status = .tentative ∧ b.status = .confirmed)
      then (b.delay, b.attenuation) else (a.delay, a.attenuation) := by
  refine ⟨?_, rfl, rfl, ?_⟩
  · unfold combine
    split_ifs with confirmed
    · exact iff_of_true rfl confirmed
    · exact iff_of_false nofun confirmed
  · have leader : combineLeader a b =
        if b.attenuation < a.attenuation ∨ (a.attenuation = b.attenuation ∧ a.status = .tentative ∧ b.status = .confirmed)
        then b else a := by
      unfold combineLeader
      obtain less | same | more := Nat.lt_trichotomy a.attenuation b.attenuation
      · rw [if_pos less, if_neg]
        rintro (more | ⟨same, -⟩) <;> omega
      · simp [same]
      · rw [if_neg more.not_gt, if_pos more, if_pos (.inl more)]
    simp only [combine, leader]
    split_ifs <;> rfl

end Sys2Proof.Machine
end

section
/-! What an estimate does to the path (R51, R65 to R69, R71), and O47. -/

namespace Sys2Proof.Machine

open Sys2Proof

/-! ### The whole table, and the orders it goes by -/

theorem revisedTable_eq (fade : Nat) (table : List EchoEntry) (observed : List Observation) : revisedTable fade table observed =
    let inRange := observed.filter (fun o => decide (-8192 ≤ o.delay ∧ o.delay ≤ 16383))
    let matched := (sortObservations inRange).foldl matchOne (table.map (fun e => { start := some e.delay, touched := false, entry := e }), [])
    orderAndMerge (((matched.2.foldl insertNewcomer matched.1).filterMap (ageOne fade)).map promote) := by
  simp only [Bool.decide_and]
  rfl

theorem weakestUntouched_weakest {ws : List Working} {e : EchoEntry} (found : weakestUntouched ws = some e) :
    (∃ w ∈ ws, w.touched = false ∧ w.entry = e) ∧ ∀ w ∈ ws, w.touched = false → NoWeaker w.entry e :=
  ⟨weakestUntouched_mem found, (foldl_weakestStep_weakest ws none e found).2⟩

theorem promote_table (e : EchoEntry) : (3 ≤ e.hits → promote e = { e with status := .confirmed }) ∧ (e.hits < 3 → promote e = e) :=
  ⟨fun often => if_pos often, fun seldom => if_neg (Nat.not_le.mpr seldom)⟩

theorem orderAndMerge_table (es : List EchoEntry) : orderAndMerge es = mergeClose (sortEntries es) ∧ (sortEntries es).Perm es ∧
    (sortEntries es).Pairwise (fun a b => a.delay ≤ b.delay) := by
  obtain ⟨sorted, perm⟩ := sortEntries_sorted_perm es
  exact ⟨rfl, perm, sorted⟩

/-- Arrivals and displacement together (R54, R55). -/
theorem insertNewcomer_table (ws : List Working) (o : Observation) :
    let arrived : Working := { start := none, touched := true, entry := newEntry o }
    (ws.length < 8 → insertNewcomer ws o = ws ++ [arrived]) ∧
    (8 ≤ ws.length → (∀ w ∈ ws, w.touched = true) → insertNewcomer ws o = ws) ∧
    (∀ e, 8 ≤ ws.length → weakestUntouched ws = some e → e.attenuation ≤ o.attenuation.toNat → insertNewcomer ws o = ws) ∧
    (∀ e, 8 ≤ ws.length → weakestUntouched ws = some e → o.attenuation.toNat < e.attenuation →
      insertNewcomer ws o = ws.filter (fun w => w.touched || w.entry != e) ++ [arrived]) := by
  refine ⟨fun room => insertNewcomer_of_room room o, fun full touched => insertNewcomer_of_touched full o touched,
    fun e full weakest weak => ?_, fun e full weakest strong => ?_⟩
  · rw [insertNewcomer_of_weakest full o weakest, if_neg (Nat.not_lt.mpr weak)]
  · rw [insertNewcomer_of_weakest full o weakest, if_pos strong]

/-! ### Step 7: the anchor's move (R66, R68) -/

theorem not_inDelayRange (d : Int) : (!inDelayRange d) = decide (d < -8192 ∨ 16383 < d) := by
  rw [inDelayRange, Bool.not_eq_eq_eq_not, ← Bool.decide_and, ← decide_not]
  refine decide_eq_decide.mpr ?_
  dsimp only [Config.delayMin, Config.delayMax]
  omega

theorem clampDelay_ne (d : Int) : (clampDelay d != d) = decide (d < -8192 ∨ 16383 < d) := by
  rw [Bool.eq_iff_iff, bne_iff_ne, decide_eq_true_iff]
  dsimp only [clampDelay, Config.delayMin, Config.delayMax]
  omega

theorem placeAnchor_first (cfg : PathConfig) (t : Int) : placeAnchor cfg none (some t) =
    ⟨some (max (-8192) (min 16383 t)), decide (t < -8192 ∨ 16383 < t)⟩ :=
  congrArg (Placed.mk (some (clampDelay t))) (not_inDelayRange t)

theorem placeAnchor_stays {cfg : PathConfig} {a t : Int} (near : (t - a).natAbs ≤ cfg.moveThreshold) :
    placeAnchor cfg (some a) (some t) = ⟨some a, decide (t < -8192 ∨ 16383 < t)⟩ := by
  simp only [placeAnchor, near, decide_true, Bool.not_true, Bool.false_eq_true, if_false, Bool.false_and, Bool.or_false, not_inDelayRange]

theorem placeAnchor_moves {cfg : PathConfig} {a t : Int} (far : cfg.moveThreshold < (t - a).natAbs) :
    let moved := a + max (-(cfg.slewLimit : Int)) (min cfg.slewLimit (t - a))
    placeAnchor cfg (some a) (some t) = ⟨some (max (-8192) (min 16383 moved)),
      decide (t < -8192 ∨ 16383 < t ∨ moved < -8192 ∨ 16383 < moved)⟩ := by
  intro moved
  have stepped : steppedAnchor cfg a t = moved := if_neg (Nat.not_le.mpr far)
  have clamped : decide (t < -8192 ∨ 16383 < t ∨ moved < -8192 ∨ 16383 < moved) = (!inDelayRange t || clampDelay moved != moved) := by
    rw [not_inDelayRange, clampDelay_ne, ← Bool.decide_or, decide_eq_decide, or_assoc]
  rw [clamped]
  simp only [placeAnchor, stepped, Nat.not_le.mpr far, decide_false, Bool.not_false, if_true, Bool.true_and]
  rfl

/-! ### The whole of an estimate (R51, R65, R67, R69, R71) -/

theorem reportEstimate_eq {s : State} {p : PathId} {after : Tracker} (before : Tracker) (holds : (s.path p).tracker = after) :
    let spilled := if after.spill = before.spill then s else s.raiseSpill p
    s.reportEstimate p before =
      if before.anchor.isSome = true ∧ after.anchor ≠ before.anchor then spilled.countPath p .anchorMoves else spilled := by
  simp only [State.reportEstimate, holds, eq_comm (a := before.spill), ne_comm (a := before.anchor)]

/-- The state once the revised tracker is written and reported. -/
def estimateReported (p : PathId) (observed : List Observation) (s : State) : State :=
  (s.modPath p (fun x => { x with tracker := (estimateTracker (s.path p).config (s.path p).tracker observed).1 })).reportEstimate p
    (s.path p).tracker

theorem estimateTaken_of_timing {s : State} {p : PathId} (observed : List Observation) (timed : (s.path p).hasTiming = true)
    (runs : s.stagesRun p = true) : estimateTaken p observed s =
      let result := estimateTracker (s.path p).config (s.path p).tracker observed
      if result.2 = true ∧ result.1.clampedRun = 16 ∧ (s.path p).state ≠ .scan
      then (estimateReported p observed s).takeFault p .anchorRunaway (anchorWord result.1.anchor)
      else estimateReported p observed s := if_pos ⟨timed, runs⟩

theorem estimateTaken_of_stopped {s : State} {p : PathId} (observed : List Observation) (stopped : s.stagesRun p = false) :
    estimateTaken p observed s = s := if_neg fun ⟨_, runs⟩ => Bool.false_ne_true (stopped.symm.trans runs)

/-! ### The receive window (R66) -/

theorem receiveWindow_eq (x : Path) : x.receiveWindow = x.symbolAnchor.map (fun a => (a - (x.tracker.guardLength : Int), a)) := rfl

theorem raise_receiveWindow (s : State) (u : UnitId) (d : NoticeDetail) (p : PathId) :
    ((s.raise u d).path p).receiveWindow = (s.path p).receiveWindow := by
  rw [State.path_eq, State.raise_paths, ← State.path_eq]

theorem count_receiveWindow (s : State) (p : PathId) (c : PathCounter) :
    ((s.count (.path p c)).path p).receiveWindow = (s.path p).receiveWindow := by
  have written : ((s.setCounter (.path p c) (s.counter (.path p c)).step).path p).receiveWindow = (s.path p).receiveWindow := by
    rw [State.setCounter, modPath_path_self]
    rfl
  unfold State.count
  dsimp only
  split_ifs
  · rw [raise_receiveWindow, written]
  · exact written

theorem countPath_receiveWindow (s : State) (p : PathId) (c : PathCounter) :
    ((s.countPath p c).path p).receiveWindow = (s.path p).receiveWindow := by
  cases inhibited : (s.path p).inhibited with
  | true => rw [countPath_of_inhibited inhibited]
  | false => rw [countPath_of_free inhibited, count_receiveWindow]

theorem reportEstimate_receiveWindow (s : State) (p : PathId) (before : Tracker) :
    ((s.reportEstimate p before).path p).receiveWindow = (s.path p).receiveWindow := by
  rw [reportEstimate_eq before rfl]
  have spilled : ((s.raiseSpill p).path p).receiveWindow = (s.path p).receiveWindow := raise_receiveWindow s _ _ p
  split_ifs <;> simp only [countPath_receiveWindow, spilled]

/-- The revised tracker keeps the timing origin, and with it the guard length. -/
theorem estimateReported_receiveWindow (p : PathId) (observed : List Observation) (s : State) :
    ((estimateReported p observed s).path p).receiveWindow = (s.path p).receiveWindow := by
  rw [estimateReported, reportEstimate_receiveWindow, modPath_path_self]
  rfl

/-! ### An estimate that faults the path leaves its state -/

theorem takeFault_pathState (s : State) (p : PathId) (cause : FaultCause) (value : Word) :
    ((s.takeFault p cause value).path p).state = if (s.path p).fault.hold = true then .halt else .fault := by
  unfold State.takeFault
  split_ifs
  · rw [State.secondFault, (Still.endTune _ p _).pathState, (Still.raise _ _ _).pathState, (Still.raise _ _ _).pathState,
      enterPath_path_self]
    rfl
  · rw [State.firstFault, (Still.endTune _ p _).pathState, (Still.raise _ _ _).pathState, enterPath_path_self]
    rfl

theorem Path.hasTiming_of_stopped {x : Path} (stopped : x.state = .fault ∨ x.state = .halt) : x.hasTiming = false := by
  obtain fault | halt := stopped
  · simp [Path.hasTiming, fault]
  · simp [Path.hasTiming, halt]

/-- An estimate that does not move the path leaves the receive window as it was. -/
theorem estimateTaken_receiveWindow {s : State} {p : PathId} {observed : List Observation}
    (stays : ((estimateTaken p observed s).path p).state = (s.path p).state) :
    ((estimateTaken p observed s).path p).receiveWindow = (s.path p).receiveWindow := by
  cases timed : (s.path p).hasTiming with
  | false => rw [estimateTaken_of_no_timing observed timed]
  | true =>
    cases runs : s.stagesRun p with
    | false => rw [estimateTaken_of_stopped observed runs]
    | true =>
      rw [estimateTaken_of_timing observed timed runs] at stays ⊢
      dsimp only at stays ⊢
      split_ifs at stays ⊢
      · rw [takeFault_pathState] at stays
        have stopped : (s.path p).state = .fault ∨ (s.path p).state = .halt := by
          split_ifs at stays
          · exact .inr stays.symm
          · exact .inl stays.symm
        cases timed.symm.trans (Path.hasTiming_of_stopped stopped)
      · exact estimateReported_receiveWindow p observed s

theorem exec_estimate_receiveWindow {s t : State} {p : PathId} {observed : List Observation}
    (next : exec (.estimate p observed) s = .next t) (stays : (t.path p).state = (s.path p).state) :
    (t.path p).receiveWindow = (s.path p).receiveWindow := by
  rw [exec_estimate] at next
  cases held : s.resetHeld with
  | true =>
    rw [live_held held] at next
    obtain rfl : s = t := Host.Outcome.next.inj next
    rfl
  | false =>
    rw [live_running held] at next
    obtain rfl : estimateTaken p observed s = t := Host.Outcome.next.inj next
    exact estimateTaken_receiveWindow stays

/-! ### The obligation -/

/-- Settles O47: the estimate's outcome from `estimateTaken` and `reportEstimate`, then each step on its own. -/
theorem estimateRevisesTheTracker : Obligations.EstimateRevisesTheTracker := by
  refine ⟨fun s p observed ⟨released, runs⟩ timed => ?_, revisedTable_eq, fun os => (sortObservations_sorted_perm os).symm,
    fun ws unmatched o far => matchOne_of_far far,
    fun ws unmatched o x ordered mem near nearest => matchOne_of_nearest ordered mem near nearest,
    insertNewcomer_table, weakestUntouched_eq_none, fun ws e found => weakestUntouched_weakest found, ageOne_table, promote_table,
    orderAndMerge_table, fun es apart => mergeClose_of_pairwise apart,
    fun before after a b apart ordered close => mergeClose_append_close apart ordered close, combine_table,
    fun cfg anchor => rfl, placeAnchor_first, fun cfg a t near => placeAnchor_stays near, fun cfg a t far => placeAnchor_moves far,
    receiveWindow_eq, fun s t p observed next stays => exec_estimate_receiveWindow next stays⟩
  rw [exec_estimate, live_running released, estimateTaken_of_timing observed timed runs, estimateReported,
    reportEstimate_eq (s.path p).tracker (congrArg Path.tracker (modPath_path_self s p _))]
  rfl

end Sys2Proof.Machine
end
